-- ==== Sys2Proof/Word.lean ====
section
/-! DEFINITION. The words of the NZ-4512: bytes on a line, and the widths the manual gives to fields and counts. -/

namespace Sys2Proof

/-- One byte on a segment line or on the trunk. -/
abbrev Byte := BitVec 8

/-- A field address or another 12-bit address field of a field frame (Table 1-1). -/
abbrev Address := BitVec 12

/-- A value of the device time, "a 32-bit unsigned count" (R7). -/
abbrev Second := BitVec 32

end Sys2Proof
end

