-- ==== Sys2Proof/Syntax.lean ====
section
/-! DEFINITION. The commands of the NZ-4512: one constructor for each row of spec/opcode_table.json, in the table's order.
An operand is what the outside world brings to the step: bytes from a line, a pin's level, which segment or zone the event is
at, whether a store write succeeded. A management request brings its arguments in the trunk frame that put it in the request
slot (R178), so its row has no operand here: the step takes the request that waits in the slot (log entry 2). -/

namespace Sys2Proof

/-- The steps of the part ("each whole and indivisible", 95_what_each_step_holds.md). -/
inductive Instr where
  /-- COLD_RESET: RESETN goes low, or power is applied (R19). -/
  | coldReset
  /-- COLD_RESET_END: RESETN returns high; `straps` are the levels of TA7..TA0 at that moment (R176). -/
  | coldResetEnd (straps : BitVec 8)
  /-- LOAD_COMPLETION: the store load ends (R162). -/
  | loadCompletion
  /-- DEVICE_TIME_ADVANCE: one second passes (R7). -/
  | deviceTimeAdvance
  /-- RECEPTION_COMPLETION: the first line-idle interval after the last of `bytes` on `segment` (R4). -/
  | receptionCompletion (segment : Nat) (bytes : List Byte)
  /-- SEGMENT_SILENCE_EXPIRY: the silence of `segment` reaches the limit (R17). -/
  | segmentSilenceExpiry (segment : Nat)
  /-- TAKE: the Translation Engine takes a record (R10). -/
  | take
  /-- TRANSLATION_COMPLETION: the translation of the taken record (R28). -/
  | translationCompletion
  /-- HOLD_EXPIRY of `zone` (R81). -/
  | holdExpiry (zone : Nat)
  /-- GRACE_EXPIRY of `zone` (R84). -/
  | graceExpiry (zone : Nat)
  /-- SHADOW_HOLD_EXPIRY of the shadow record of `zone` (R98). -/
  | shadowHoldExpiry (zone : Nat)
  /-- SHADOW_GRACE_EXPIRY of the shadow record of `zone` (R98). -/
  | shadowGraceExpiry (zone : Nat)
  /-- TRANSMISSION_START on `segment` (R120). -/
  | transmissionStart (segment : Nat)
  /-- TRANSMIT_COMPLETION on `segment` (R122). -/
  | transmitCompletion (segment : Nat)
  /-- TRUNK_FRAME_RECEIVED: a burst of `bytes` delimited by line idle (R175, R176). -/
  | trunkFrameReceived (bytes : List Byte)
  /-- TRUNK_TRANSMIT_START (R126). -/
  | trunkTransmitStart
  /-- TRUNK_TRANSMIT_COMPLETION (R126). -/
  | trunkTransmitCompletion
  /-- TRUNK_LOSS: the link-integrity signal is lost (R177, R127). -/
  | trunkLoss
  /-- TRUNK_RESTORATION: the link-integrity signal is sensed (R177, R172). -/
  | trunkRestoration
  /-- MAINT_CHANGE: the MAINT input becomes `active` or not (R136). -/
  | maintChange (active : Bool)
  /-- IDENTIFY taken from the request slot (R179). -/
  | identify
  /-- READ_STATUS taken from the request slot (R180). -/
  | readStatus
  /-- READ_TABLE taken from the request slot (R181). -/
  | readTable
  /-- WRITE_STAGED taken from the request slot (R131). -/
  | writeStaged
  /-- INSERT_WINDOW taken from the request slot (R37). -/
  | insertWindow
  /-- DELETE_WINDOW taken from the request slot (R37). -/
  | deleteWindow
  /-- CLEAR_ENTRY taken from the request slot (R131). -/
  | clearEntry
  /-- COPY_ACTIVE taken from the request slot (R132). -/
  | copyActive
  /-- DISCARD_STAGED taken from the request slot (R132). -/
  | discardStaged
  /-- VALIDATE taken from the request slot (R133). -/
  | validate
  /-- REHEARSE_START taken from the request slot (R138). -/
  | rehearseStart
  /-- REHEARSE_STOP taken from the request slot (R138). -/
  | rehearseStop
  /-- CUTOVER taken from the request slot (R146). -/
  | cutover
  /-- WALK_BEGIN: the first walk step begins (R149). -/
  | walkBegin
  /-- WALK_STEP_COMPLETION: the walk step in progress ends (R150). -/
  | walkStepCompletion
  /-- CUTOVER_COMPLETION: the walk has ended and the cutover completes (R156). -/
  | cutoverCompletion
  /-- ABORT_CUTOVER taken from the request slot (R154). -/
  | abortCutover
  /-- ZONE_SET_LEVEL taken from the request slot (R75). -/
  | zoneSetLevel
  /-- ZONE_FORCE taken from the request slot (R76). -/
  | zoneForce
  /-- ZONE_SET_DAMPER taken from the request slot (R77). -/
  | zoneSetDamper
  /-- SET_PARAMETER taken from the request slot (R182). -/
  | setParameter
  /-- SET_CLOSED_FLOOR taken from the request slot (R49). -/
  | setClosedFloor
  /-- FLUSH_READINGS taken from the request slot (R104). -/
  | flushReadings
  /-- CLEAR_PENDING taken from the request slot (R173). -/
  | clearPending
  /-- CLEAR_OCCURRENCES taken from the request slot (R173). -/
  | clearOccurrences
  /-- RESTART taken from the request slot (R183). -/
  | restart
  /-- STORE_WRITE_COMPLETION: the store write ends, with `success` or a failure (R161). -/
  | storeWriteCompletion (success : Bool)
  /-- SWEEP_TIMER_EXPIRY: the sweep timer reaches the supervision interval (R165). -/
  | sweepTimerExpiry
  /-- SWEEP_START: a due sweep begins (R166). -/
  | sweepStart
  /-- PRESENCE_PASS: part 2 of a sweep (R167). -/
  | presencePass
  /-- ZONE_TEMPERATURE_COMPUTATION: part 3 of a sweep, for the next present zone (R109). -/
  | zoneTemperatureComputation
  /-- SHADOW_TEMPERATURE_COMPUTATION: part 4 of a sweep, for the next staged zone (R115). -/
  | shadowTemperatureComputation
  /-- REFRESH: part 5 of a sweep, for the next output-incomplete zone (R72). -/
  | refresh
  /-- RECEPTION_START: the first byte on the idle line of `segment` (R4). -/
  | receptionStart (segment : Nat)
  /-- UNKNOWN_REQUEST_NAME: a request of unknown name taken from the request slot (R178). -/
  | unknownRequestName
  deriving DecidableEq, Repr

end Sys2Proof
end

