-- ==== Sys2Proof/Decode.lean ====
section
/-! DEFINITION. The command a word of the table spells. spec/opcode_table.json gives no row any bits, so no word spells a
command: management requests reach the part as trunk frames (R175, R184), whose decoding is in Machine/Operands.lean. -/

namespace Sys2Proof

/-- The command spelled by the table's bits: no row of spec/opcode_table.json gives bits, so there is none. -/
def decodeTableWord (_nbits _w : Nat) : Option Instr := none

end Sys2Proof
end

