-- ==== Sys2Proof/Config.lean ====
section
/-! DEFINITION. What one part fixes at manufacture, and the free values: constants without a body, of which nothing can be
proved, for the few values the manual leaves open. -/

namespace Sys2Proof.Config

/-- The 48-bit unique number set at manufacture (R179); each part has its own. Log entry 4. -/
opaque uniqueNumber : BitVec 48

/-- FREE VALUE. The device time after an advance from 4294967295: R7 calls the count 32-bit unsigned and states no successor.
DESIGN CHOICE, log entry 5. -/
opaque timeAfterLast : Nat → BitVec 32

/-- FREE VALUE. The request code a reply carries when its request had an empty body, so that there is no code to return
(R178, R184). DESIGN CHOICE, log entry 6. -/
opaque codeOfEmptyRequest : Nat → BitVec 8

/-- FREE VALUE. Whether the first of two conditions of one event that R170 leaves unordered is taken first.
DESIGN CHOICE, log entry 7. -/
opaque firstTaken : Nat → Bool

end Sys2Proof.Config
end

