-- ==== Sys2Proof/Machine/State.lean ====
section
/-! DEFINITION. The state of the NZ-4512 as plain data, with its value at reset. Every field names the rule that gives it.
A table is a vector with one record per number; every queue is a list, oldest first. -/

namespace Sys2Proof.Machine

/-! ## Field frames (chapter 1) -/

/-- The fields of a field frame but its check (Table 1-1). -/
structure FieldFrame where
  destination : Address
  kind : BitVec 4
  source : Address
  aux : BitVec 4
  point : BitVec 8
  /-- the 16-bit two's-complement form of the value -/
  value : BitVec 16
  deriving DecidableEq, Repr

/-- One record of an ingress queue (R8). -/
structure IngressRecord where
  frame : FieldFrame
  /-- the segment the frame arrived on -/
  segment : Nat
  /-- the device time at reception completion -/
  second : Second
  deriving DecidableEq, Repr

/-- The hold state of a Segment Port (R13). -/
inductive HoldState where
  | released
  | held
  deriving DecidableEq, Repr

/-- The state of a segment (R16), and of the trunk link (R177). -/
inductive LineState where
  | up
  | down
  deriving DecidableEq, Repr

/-- A control frame a Segment Port requests (R13). -/
inductive ControlFrame where
  | hold
  | release
  deriving DecidableEq, Repr

/-- The kind of a command (R116). -/
inductive CommandKind where
  | level
  | damper
  deriving DecidableEq, Repr

/-- An entry of a command queue (R116). -/
structure CommandEntry where
  destination : Nat
  kind : CommandKind
  value : Nat
  fade : Nat
  /-- the originating zone -/
  zone : Nat
  deriving DecidableEq, Repr

/-- One segment: its Segment Port (chapter 1) and its Egress Arbiter (chapter 7). -/
structure Segment where
  /-- a reception is in progress, so the line is busy (R4) -/
  receiving : Bool
  /-- the ingress queue (R8) -/
  ingress : List IngressRecord
  hold : HoldState
  line : LineState
  /-- the arrival second of the last valid frame (R16) -/
  lastArrival : Option Second
  /-- the receive counts of R18 -/
  received : Nat
  malformed : Nat
  overflow : Nat
  /-- the command queue (R116) -/
  commands : List CommandEntry
  /-- the station queue (R118) -/
  stations : List FieldFrame
  /-- the pending control frame slot (R119) -/
  control : Option ControlFrame
  /-- the burst count (R121) -/
  burst : Nat
  /-- the bytes of the frame in transmission; none when the transmitter is free (R120, R122) -/
  transmitting : Option (List Byte)
  deriving DecidableEq, Repr

/-! ## The plan (chapters 2 to 4) -/

/-- The semantic classes, in the order of their codes (Table 2-2). -/
inductive FrameClass where
  | pass
  | ignore
  | presence
  | absence
  | temperature
  | keyOn
  | keyOff
  | keyRaise
  | keyLower
  | setWarmer
  | setCooler
  deriving DecidableEq, Repr

/-- A classifier entry (Table 2-1). -/
structure ClassifierEntry where
  present : Bool
  kindPattern : BitVec 4
  kindMask : BitVec 4
  pointPattern : BitVec 8
  pointMask : BitVec 8
  valuePattern : BitVec 16
  valueMask : BitVec 16
  cls : FrameClass
  /-- the scale is ×10; otherwise ×1 -/
  timesTen : Bool
  deriving DecidableEq, Repr

/-- The defaults of Table 2-1. -/
def ClassifierEntry.cleared : ClassifierEntry :=
  { present := false, kindPattern := 0, kindMask := 0, pointPattern := 0, pointMask := 0, valuePattern := 0,
    valueMask := 0, cls := .ignore, timesTen := false }

/-- The window roles, in the order of their codes (Table 3-2). -/
inductive Role where
  | occupancySensor
  | temperatureSensor
  | keypad
  | luminaire
  | damper
  | other
  deriving DecidableEq, Repr

/-- A window of the Membership Map (Table 3-1). -/
structure Window where
  low : Nat
  high : Nat
  segment : Nat
  zone : Nat
  role : Role
  trim : Nat
  weight : Nat
  translate : Bool
  forward : Bool
  station : Bool
  supervise : Bool
  pin : Bool
  deriving DecidableEq, Repr

/-- A zone record (Table 4-1). -/
structure ZoneRecord where
  present : Bool
  onLevel : Nat
  minOn : Nat
  step : Nat
  /-- minutes -/
  holdTime : Nat
  /-- seconds -/
  graceTime : Nat
  gracePercent : Nat
  autoOn : Bool
  comfort : Nat
  setback : Nat
  normalFade : Nat
  rezoneFade : Nat
  spreadAlarm : Nat
  reportOnChange : Bool
  deriving DecidableEq, Repr

/-- The defaults of Table 4-1. -/
def ZoneRecord.cleared : ZoneRecord :=
  { present := false, onLevel := 800, minOn := 100, step := 50, holdTime := 15, graceTime := 60, gracePercent := 50,
    autoOn := true, comfort := 2150, setback := 1800, normalFade := 2, rezoneFade := 8, spreadAlarm := 0,
    reportOnChange := true }

/-- One bank of the plan: window list (R37), zone table (R57) and classifier (R21). Zone z is at index z − 1. -/
structure Bank where
  windows : List Window
  zones : Vector ZoneRecord 255
  classifier : Vector ClassifierEntry 32
  deriving DecidableEq, Repr

/-- The empty plan: no window, no present zone, no present classifier entry (Table 8-1). -/
def Bank.empty : Bank :=
  { windows := [], zones := Vector.replicate 255 .cleared, classifier := Vector.replicate 32 .cleared }

/-! ## Zone states (R60) -/

/-- The states of the occupancy machine (R78). -/
inductive Occupancy where
  | vacant
  | occupied
  | grace
  deriving DecidableEq, Repr

/-- How a zone temperature was obtained (R107, R108). -/
inductive TemperatureStatus where
  | valid
  | stale
  | none
  deriving DecidableEq, Repr

/-- A record of the runtime or shadow zone state table (Table 4-2). -/
structure ZoneState where
  occupancy : Occupancy
  /-- hold remaining, seconds -/
  hold : Nat
  /-- grace remaining, seconds -/
  grace : Nat
  /-- the zone level L -/
  level : Nat
  /-- the pre-grace level -/
  preGrace : Nat
  /-- the setpoint offset -/
  offset : Int
  /-- the zone temperature, or absent -/
  temperature : Option Int
  status : TemperatureStatus
  /-- the contributing count -/
  count : Nat
  spread : Nat
  /-- the last damper position, or absent -/
  damper : Option Nat
  outputIncomplete : Bool
  reportPending : Bool
  frozen : Bool
  /-- MODEL: an advance of device time has come that takes the timer that runs from 1 to 0, and the expiry that makes it 0 is
  due (R80, R84, log entry 13) -/
  expiring : Bool
  deriving DecidableEq, Repr

/-- The idle values of Table 4-2. -/
def ZoneState.idle : ZoneState :=
  { occupancy := .vacant, hold := 0, grace := 0, level := 0, preGrace := 0, offset := 0, temperature := none,
    status := .none, count := 0, spread := 0, damper := none, outputIncomplete := false, reportPending := false,
    frozen := false, expiring := false }

/-! ## The Translation Engine -/

/-- A translation in progress: the record taken, and what R48 and R140 read as it stood at the take. -/
structure Translation where
  record : IngressRecord
  /-- the closed-floor setting at the take (R48) -/
  closedFloor : Bool
  /-- taken while REHEARSING, and rehearsal has not ended since (R140) -/
  rehearsed : Bool
  deriving DecidableEq, Repr

/-- The Translation Engine (R10, R11, R141). -/
structure Engine where
  /-- the round-robin pointer, a segment 1 to 4 -/
  pointer : Nat
  /-- the ingress gate is open -/
  gateOpen : Bool
  current : Option Translation
  /-- the trace prescale count -/
  traceCount : Nat
  deriving DecidableEq, Repr

/-! ## The Climate Aggregator and the Supervision Unit -/

/-- What a point cache entry keeps of its sensor's last report: a class, PRESENCE or ABSENCE, or a reading (R99). -/
inductive Report where
  | presence
  | absence
  | reading (t : Int)
  deriving DecidableEq, Repr

/-- A point cache entry (R99). The cache is a list in ascending address order. -/
structure CacheEntry where
  address : Nat
  role : Role
  last : Report
  second : Second
  implausible : Bool
  deriving DecidableEq, Repr

/-- The presence states (R163). -/
inductive PresenceState where
  | unknown
  | present
  | silent
  deriving DecidableEq, Repr

/-- A presence table entry (R163). The table is a list in ascending address order. -/
structure PresenceEntry where
  address : Nat
  state : PresenceState
  missed : Nat
  heard : Bool
  deriving DecidableEq, Repr

/-- How far the sweep in progress has come (R166). A zone number is that of the last zone the part has dealt with. -/
inductive SweepPhase where
  /-- no sweep is in progress -/
  | idle
  /-- a sweep is due and begins at the next SWEEP_START -/
  | starting
  /-- part 2: the presence pass is due -/
  | presence
  /-- part 3: temperatures and reports of the present zones above `after` are due -/
  | temperatures (after : Nat)
  /-- part 4: shadow temperatures of the staged zones above `after` are due -/
  | shadow (after : Nat)
  /-- part 5: refreshes of the output-incomplete zones above `after` are due -/
  | refresh (after : Nat)
  deriving DecidableEq, Repr

/-- The Supervision Unit's sweep state (R165, R166, R168). -/
structure Sweep where
  /-- seconds since the sweep timer last started -/
  elapsed : Nat
  /-- the sweep number -/
  number : Nat
  phase : SweepPhase
  /-- sweeps waiting to start after the one in progress -/
  waiting : Nat
  /-- a sweep is deferred to the end of the walk -/
  deferred : Bool
  deriving DecidableEq, Repr

/-! ## Staging and cutover -/

/-- The staging states (Table 8-1). -/
inductive StagingState where
  | empty
  | editing
  | validated
  | rehearsing
  | cutting
  | retained
  deriving DecidableEq, Repr

/-- The validation checks in the order of Table 8-3. -/
inductive Check where
  | order
  | zoneMissing
  | zoneZero
  | levels
  | actuatorLimit
  | tempLimit
  | sensorTotal
  | pinAttribute
  | pinConflict
  deriving DecidableEq, Repr

/-- The outcome of a validation result (R137). -/
inductive ValidationOutcome where
  | none
  | passed
  | failed
  deriving DecidableEq, Repr

/-- The validation result (R137). -/
structure ValidationResult where
  outcome : ValidationOutcome
  check : Option Check
  index : Option Nat
  reliance : Bool
  deriving DecidableEq, Repr

/-- The cleared validation result (R137). -/
def ValidationResult.cleared : ValidationResult :=
  { outcome := .none, check := none, index := none, reliance := false }

/-- A decoded FIELD_DOWN body (R148). -/
structure FieldDown where
  /-- the segment selector -/
  selector : Nat
  frame : FieldFrame
  deriving DecidableEq, Repr

/-- How far the walk has come (R149). -/
inductive WalkPhase where
  /-- no cutover is in progress -/
  | inactive
  /-- accepted; the first step has not begun -/
  | waiting
  /-- the step of the zone at the cursor is in progress -/
  | stepping
  /-- the last step has completed -/
  | finished
  deriving DecidableEq, Repr

/-- The Cutover Unit (chapter 9). -/
structure Walk where
  phase : WalkPhase
  /-- the walk cursor (R149) -/
  cursor : Nat
  /-- the cutover was accepted in RETAINED (R158) -/
  revert : Bool
  /-- the computed states, by zone number, latest first -/
  computed : List (Nat × ZoneState)
  /-- the trunk hold queue (R148) -/
  held : List FieldDown
  deriving DecidableEq, Repr

/-- The Cutover Unit outside CUTTING. -/
def Walk.none : Walk := { phase := .inactive, cursor := 0, revert := false, computed := [], held := [] }

/-! ## Settings and the Plan Store -/

/-- The stored settings (Table 9-3). -/
structure Settings where
  supervisionInterval : Nat
  silentLimit : Nat
  staleLimit : Nat
  silenceLimit : Nat
  burstAllowance : Nat
  tracePrescale : Nat
  /-- the notice enable of the condition with each code -/
  enables : Vector Bool 21
  /-- forced hold, segment n at index n − 1 -/
  forcedHold : Vector Bool 4
  closedFloor : Bool
  deriving DecidableEq, Repr

/-- The defaults of Table 9-3. -/
def Settings.default : Settings :=
  { supervisionInterval := 60, silentLimit := 3, staleLimit := 900, silenceLimit := 10, burstAllowance := 8,
    tracePrescale := 1, enables := Vector.replicate 21 true, forcedHold := Vector.replicate 4 false,
    closedFloor := false }

/-- The store image (R160). -/
structure Image where
  /-- the active window list with its count, zone table and classifier -/
  bank : Bank
  generation : Nat
  settings : Settings
  /-- the check stored beside the rest -/
  check : BitVec 16
  deriving DecidableEq, Repr

/-- The store status (R160). -/
inductive StoreStatus where
  | valid
  | invalid
  deriving DecidableEq, Repr

/-- The Plan Store (R160, R161). -/
structure Store where
  image : Image
  status : StoreStatus
  /-- the store state is WRITING -/
  writing : Bool
  deriving DecidableEq, Repr

/-! ## Notices and the trunk -/

/-- The conditions in the order of their codes (Table 10-2). -/
inductive Condition where
  | segmentDown
  | segmentUp
  | malformedFrame
  | ingressOverflow
  | commandOverflow
  | unlistedSource
  | misplacedDevice
  | classifierMiss
  | roleMismatch
  | undeliverable
  | implausibleReading
  | reportOverrun
  | deviceSilent
  | deviceReturned
  | stageRejected
  | cutoverDone
  | cutoverAborted
  | storeFailed
  | storeInvalid
  | trunkRestored
  | foreignManagement
  deriving DecidableEq, Repr

/-- The Notice Unit's record of a condition (R170); its enable is a stored setting and stands in Settings. -/
structure NoticeState where
  pending : Bool
  occurrence : Bool
  counter : Nat
  firstScope : Option Nat
  deriving DecidableEq, Repr

/-- A clear record of the Notice Unit (R174). -/
def NoticeState.clear : NoticeState :=
  { pending := false, occurrence := false, counter := 0, firstScope := none }

/-- A notice record (R172); its class follows from the condition. -/
structure NoticeRecord where
  condition : Condition
  scope : Option Nat
  counter : Nat
  deriving DecidableEq, Repr

/-- A MGMT_REPLY waiting in the reply queue (R178). -/
structure Reply where
  tag : Byte
  body : List Byte
  deriving DecidableEq, Repr

/-- A zone report (Table 6-1). -/
structure ZoneReport where
  zone : Nat
  generation : Nat
  sweep : Nat
  occupancy : Occupancy
  level : Nat
  status : TemperatureStatus
  temperature : Option Int
  count : Nat
  spread : Nat
  spreadAlarm : Bool
  setpoint : Int
  offset : Int
  damper : Option Nat
  outputIncomplete : Bool
  deriving DecidableEq, Repr

/-- A FIELD_UP copy (R32). -/
structure FieldUp where
  segment : Nat
  zone : Nat
  cls : FrameClass
  frame : FieldFrame
  deriving DecidableEq, Repr

/-- A TRACE (R142). -/
structure Trace where
  stagedZone : Nat
  destination : Nat
  kind : CommandKind
  value : Nat
  sourceZone : Nat
  deriving DecidableEq, Repr

/-- The uplink queues and their discard counts (Table 7-2). -/
structure Uplink where
  replies : List Reply
  notices : List NoticeRecord
  reports : List ZoneReport
  forwards : List FieldUp
  traces : List Trace
  forwardDiscards : Nat
  traceDiscards : Nat
  deriving DecidableEq, Repr

/-- The uplink of R128. -/
def Uplink.empty : Uplink :=
  { replies := [], notices := [], reports := [], forwards := [], traces := [], forwardDiscards := 0,
    traceDiscards := 0 }

/-- A MGMT_REQUEST in the request slot (R178). -/
structure Request where
  /-- the frame's destination was 255 -/
  broadcast : Bool
  tag : Byte
  body : List Byte
  deriving DecidableEq, Repr

/-! ## The state -/

/-- The image in the store of `State.reset`: the empty plan and the defaults under a check that does not agree (log entry 8). -/
def Image.unwritten : Image := { bank := .empty, generation := 0, settings := .default, check := 0 }

/-- The state of the NZ-4512. -/
structure State where
  /-- RESETN is low (section 3.6) -/
  resetLow : Bool
  /-- the MAINT input is active -/
  maint : Bool
  /-- the trunk address (R176) -/
  trunkAddress : Byte
  /-- the device time (R7) -/
  deviceTime : Second
  /-- the store load after a cold reset is in progress (R162) -/
  loading : Bool
  /-- segments 1 to 4, segment n at index n − 1 -/
  segments : Vector Segment 4
  engine : Engine
  /-- the active bank -/
  active : Bank
  /-- the staged bank -/
  staged : Bank
  /-- the plan generation (R159) -/
  generation : Nat
  settings : Settings
  /-- the runtime zone state table (R60), zone z at index z − 1 -/
  zones : Vector ZoneState 255
  /-- the shadow zone state table (R64), zone z at index z − 1 -/
  shadow : Vector ZoneState 255
  /-- the point cache (R99) -/
  cache : List CacheEntry
  /-- the presence table (R163) -/
  presence : List PresenceEntry
  sweep : Sweep
  staging : StagingState
  /-- the validation result (R137) -/
  result : ValidationResult
  walk : Walk
  store : Store
  /-- the Notice Unit's records (R170), each at its condition's code -/
  notices : Vector NoticeState 21
  uplink : Uplink
  /-- the trunk link state (R177) -/
  link : LineState
  /-- the bytes of the trunk frame in transmission (R126) -/
  trunkTransmitting : Option (List Byte)
  /-- the request slot (R178) -/
  slot : Option Request
  /-- MODEL: the commands that wait, first in first out -/
  pending : List Instr
  /-- MODEL: how many free values have been drawn (log entry 3) -/
  freeCount : Nat
  deriving DecidableEq, Repr

/-- The port and arbiter of a segment after a cold reset (R19, R116, R118, R119, R121, R122). -/
def Segment.afterReset : Segment :=
  { receiving := false, ingress := [], hold := .released, line := .down, lastArrival := none, received := 0,
    malformed := 0, overflow := 0, commands := [], stations := [], control := none, burst := 0,
    transmitting := none }

/-- The Translation Engine after a cold reset (R19, R141). -/
def Engine.afterReset : Engine := { pointer := 1, gateOpen := true, current := none, traceCount := 0 }

/-- The sweep state after a cold reset (R165). -/
def Sweep.afterReset : Sweep := { elapsed := 0, number := 0, phase := .idle, waiting := 0, deferred := false }

/-- The machine right after the first cold reset has ended: the store load is in progress (R162). The store image, the MAINT
level, the straps and the MODEL's counter have no reset value in the manual (log entries 8, 9, 10 and 3). -/
def State.reset : State :=
  { resetLow := false, maint := false, trunkAddress := 1, deviceTime := 0, loading := true,
    segments := Vector.replicate 4 .afterReset, engine := .afterReset, active := .empty, staged := .empty,
    generation := 0, settings := .default, zones := Vector.replicate 255 .idle,
    shadow := Vector.replicate 255 .idle, cache := [], presence := [], sweep := .afterReset, staging := .empty,
    result := .cleared, walk := .none, store := { image := .unwritten, status := .invalid, writing := false },
    notices := Vector.replicate 21 .clear, uplink := .empty, link := .down, trunkTransmitting := none, slot := none,
    pending := [], freeCount := 0 }

/-- Why the machine stops with a fault. The manual describes no event that stops the part, so there is no constructor and no
command faults. -/
inductive Fault where
  deriving DecidableEq, Repr

/-- Why the model has no meaning for a command. -/
inductive Refusal where
  /-- The command has no meaning yet. Raised by an arm of exec alone; safe, since the model then says nothing. -/
  | notModelled (mnemonic : String)
  deriving DecidableEq, Repr

end Sys2Proof.Machine
end

