-- ==== Sys2Proof/Machine/Operands.lean ====
section
/-! DEFINITION. The wire formats: the check of R2, field frames (R1, R2, R5), trunk frames (R175), the codes of named values,
table records and the other bodies (R184), and the storing of received records with their clamps (R22, R36, R58). -/

namespace Sys2Proof.Machine

/-! ## Bytes and ranges -/

/-- "Clamp to a..b": a value below `a` becomes `a`, a value above `b` becomes `b` (section 3.3). -/
def clamp (a b n : Nat) : Nat := max a (min n b)

/-- "Saturate to a..b" of a signed quantity (section 3.3). -/
def saturate (a b n : Int) : Int := max a (min n b)

/-- A 16-bit count advanced by one, "saturating at 65535" (R18, R123, R170). -/
def advanceCount (n : Nat) : Nat := if n < 65535 then n + 1 else n

/-- A 16-bit count advanced by `k`, saturating at 65535 (R127). -/
def advanceCountBy (n k : Nat) : Nat := if n + k < 65535 then n + k else max n 65535

/-- A one-byte field. -/
def byte (n : Nat) : Byte := BitVec.ofNat 8 n

/-- A two-byte field, "most significant byte first" (R184). -/
def twoBytes (n : Nat) : List Byte := [byte (n / 256), byte n]

/-- A four-byte field, most significant byte first (R184). -/
def fourBytes (n : Nat) : List Byte := [byte (n / 16777216), byte (n / 65536), byte (n / 256), byte n]

/-- The two bytes of a 16-bit word, most significant first. -/
def wordBytes (w : BitVec 16) : List Byte := [w.extractLsb' 8 8, w.extractLsb' 0 8]

/-- A signed two-byte field in two's complement (R184). -/
def signedBytes (n : Int) : List Byte := wordBytes (BitVec.ofInt 16 n)

/-- A yes/no or on/off field: 1 for yes or on and 0 for no or off (R184). -/
def flagByte (b : Bool) : Byte := if b then 1 else 0

/-- Yes/no fields packed in one byte, the first at bit 0. -/
def flagBits (bs : List Bool) : Byte := byte (bs.foldr (fun b n => (if b then 1 else 0) + 2 * n) 0)

/-- The number in two received bytes. -/
def number (high low : Byte) : Nat := high.toNat * 256 + low.toNat

/-- A scope field: 65535 for none (R184). -/
def scopeBytes (s : Option Nat) : List Byte := twoBytes (s.getD 65535)

/-- A damper position field: 65535 when absent (R184). -/
def damperBytes (d : Option Nat) : List Byte := twoBytes (d.getD 65535)

/-- A zone temperature field: 0 when absent (R184). -/
def temperatureBytes (t : Option Int) : List Byte := signedBytes (t.getD 0)

/-! ## The check (R2) -/

/-- One bit through the register of the generator x^16 + x^12 + x^5 + 1. -/
def crcBit (reg : BitVec 16) (bit : Bool) : BitVec 16 :=
  if reg.msb != bit then (reg <<< 1) ^^^ 0x1021#16 else reg <<< 1

/-- One byte, "taken most significant bit first". -/
def crcByte (reg : BitVec 16) (b : Byte) : BitVec 16 :=
  [7, 6, 5, 4, 3, 2, 1, 0].foldl (fun r i => crcBit r (b.getLsbD i)) reg

/-- The 16-bit check: "preset to all ones … not inverted at the end". -/
def crc16 (bytes : List Byte) : BitVec 16 := bytes.foldl crcByte 0xFFFF#16

/-- The check as it is sent after the bytes it covers. -/
def checkBytes (bytes : List Byte) : List Byte := wordBytes (crc16 bytes)

/-! ## Field frames (R1 to R3, R5) -/

/-- Bytes 0 to 6 of Table 1-2. -/
def FieldFrame.bytes (f : FieldFrame) : List Byte :=
  [f.destination.extractLsb' 4 8, f.destination.extractLsb' 0 4 ++ f.kind, f.source.extractLsb' 4 8,
    f.source.extractLsb' 0 4 ++ f.aux, f.point, f.value.extractLsb' 8 8, f.value.extractLsb' 0 8]

/-- The nine bytes on the line (R2). -/
def FieldFrame.wire (f : FieldFrame) : List Byte := f.bytes ++ checkBytes f.bytes

/-- The fields that seven bytes of Table 1-2 carry. -/
def frameOf (b0 b1 b2 b3 b4 b5 b6 : Byte) : FieldFrame :=
  { destination := b0 ++ b1.extractLsb' 4 4, kind := b1.extractLsb' 0 4, source := b2 ++ b3.extractLsb' 4 4,
    aux := b3.extractLsb' 0 4, point := b4, value := b5 ++ b6 }

/-- "4095: the NZ-4512 itself", and "all devices on this segment" (Table 1-1). -/
def allDevices : Address := 4095

/-- A field device's address (Table 1-1). -/
def isFieldAddress (a : Nat) : Bool := 1 ≤ a && a ≤ 4000

/-- The fields of a received burst when it is valid; `none` when a condition of R5 makes it malformed. -/
def receiveFrame (bytes : List Byte) : Option FieldFrame :=
  match bytes with
  | [b0, b1, b2, b3, b4, b5, b6, b7, b8] =>
    let f := frameOf b0 b1 b2 b3 b4 b5 b6
    if [b7, b8] ≠ checkBytes [b0, b1, b2, b3, b4, b5, b6] then none
    else if f.kind = 0 ∨ 6 ≤ f.kind.toNat then none
    else if f.kind = 3 ∨ f.kind = 4 ∨ f.kind = 5 then none
    else if isFieldAddress f.source.toNat = false then none
    else if f.destination ≠ 0 then none
    else some f
  | _ => none

/-- The point code of a command (Table 1-3). -/
def CommandKind.point : CommandKind → BitVec 8
  | .level => 0x01
  | .damper => 0x02

/-- The frame of a command entry (Table 1-3). -/
def CommandEntry.frame (c : CommandEntry) : FieldFrame :=
  { destination := BitVec.ofNat 12 c.destination, kind := 3, source := allDevices, aux := BitVec.ofNat 4 c.fade,
    point := c.kind.point, value := BitVec.ofNat 16 c.value }

/-- The frame of a HOLD or RELEASE (Table 1-3). -/
def ControlFrame.frame (c : ControlFrame) : FieldFrame :=
  { destination := allDevices, kind := (match c with | .hold => 4 | .release => 5), source := allDevices, aux := 0,
    point := 0, value := 0 }

/-! ## Codes of named values (R184) -/

/-- Table 2-2. -/
def FrameClass.code : FrameClass → Nat
  | .pass => 0
  | .ignore => 1
  | .presence => 2
  | .absence => 3
  | .temperature => 4
  | .keyOn => 5
  | .keyOff => 6
  | .keyRaise => 7
  | .keyLower => 8
  | .setWarmer => 9
  | .setCooler => 10

/-- The class a received code is stored as: "a class code above 10 is stored as IGNORE" (R22). -/
def FrameClass.ofCode : Nat → FrameClass
  | 0 => .pass
  | 1 => .ignore
  | 2 => .presence
  | 3 => .absence
  | 4 => .temperature
  | 5 => .keyOn
  | 6 => .keyOff
  | 7 => .keyRaise
  | 8 => .keyLower
  | 9 => .setWarmer
  | 10 => .setCooler
  | _ => .ignore

/-- Table 3-2. -/
def Role.code : Role → Nat
  | .occupancySensor => 0
  | .temperatureSensor => 1
  | .keypad => 2
  | .luminaire => 3
  | .damper => 4
  | .other => 5

/-- The role a received code is stored as: "a role code above 5 is stored as OTHER" (R36). -/
def Role.ofCode : Nat → Role
  | 0 => .occupancySensor
  | 1 => .temperatureSensor
  | 2 => .keypad
  | 3 => .luminaire
  | 4 => .damper
  | _ => .other

/-- The code of a condition (Table 10-2). -/
def Condition.code : Condition → Nat
  | .segmentDown => 0
  | .segmentUp => 1
  | .malformedFrame => 2
  | .ingressOverflow => 3
  | .commandOverflow => 4
  | .unlistedSource => 5
  | .misplacedDevice => 6
  | .classifierMiss => 7
  | .roleMismatch => 8
  | .undeliverable => 9
  | .implausibleReading => 10
  | .reportOverrun => 11
  | .deviceSilent => 12
  | .deviceReturned => 13
  | .stageRejected => 14
  | .cutoverDone => 15
  | .cutoverAborted => 16
  | .storeFailed => 17
  | .storeInvalid => 18
  | .trunkRestored => 19
  | .foreignManagement => 20

/-- Every condition, in ascending code order (Table 10-2). -/
def allConditions : List Condition :=
  [.segmentDown, .segmentUp, .malformedFrame, .ingressOverflow, .commandOverflow, .unlistedSource, .misplacedDevice,
    .classifierMiss, .roleMismatch, .undeliverable, .implausibleReading, .reportOverrun, .deviceSilent,
    .deviceReturned, .stageRejected, .cutoverDone, .cutoverAborted, .storeFailed, .storeInvalid, .trunkRestored,
    .foreignManagement]

/-- The condition is of class E (Table 10-2). -/
def Condition.isError : Condition → Bool
  | .segmentDown | .ingressOverflow | .commandOverflow | .reportOverrun | .deviceSilent | .storeFailed
  | .storeInvalid | .foreignManagement => true
  | _ => false

/-- "Check 1 to 9 in the order of Table 8-3" (R184). -/
def Check.code : Check → Nat
  | .order => 1
  | .zoneMissing => 2
  | .zoneZero => 3
  | .levels => 4
  | .actuatorLimit => 5
  | .tempLimit => 6
  | .sensorTotal => 7
  | .pinAttribute => 8
  | .pinConflict => 9

/-- "… with 0 when no check is named" (R184). -/
def checkCode (c : Option Check) : Nat := (c.map Check.code).getD 0

/-- Staging state codes (R184). -/
def StagingState.code : StagingState → Nat
  | .empty => 0
  | .editing => 1
  | .validated => 2
  | .rehearsing => 3
  | .cutting => 4
  | .retained => 5

/-- Validation outcome codes (R184). -/
def ValidationOutcome.code : ValidationOutcome → Nat
  | .none => 0
  | .passed => 1
  | .failed => 2

/-- Occupancy state codes (R184). -/
def Occupancy.code : Occupancy → Nat
  | .vacant => 0
  | .occupied => 1
  | .grace => 2

/-- Temperature status codes (R184). -/
def TemperatureStatus.code : TemperatureStatus → Nat
  | .valid => 0
  | .stale => 1
  | .none => 2

/-- Presence state codes (R184). -/
def PresenceState.code : PresenceState → Nat
  | .unknown => 0
  | .present => 1
  | .silent => 2

/-- Segment state and trunk link state codes (R184). -/
def LineState.code : LineState → Nat
  | .up => 0
  | .down => 1

/-- Hold state codes (R184). -/
def HoldState.code : HoldState → Nat
  | .released => 0
  | .held => 1

/-- Store status codes (R184). -/
def StoreStatus.code : StoreStatus → Nat
  | .valid => 0
  | .invalid => 1

/-- Command kind codes (R184). -/
def CommandKind.code : CommandKind → Nat
  | .level => 0
  | .damper => 1

/-- The result codes of Table 11-3. -/
inductive Result where
  | ok
  | clamped
  | busy
  | badState
  | badTable
  | badIndex
  | full
  | locked
  | refused
  | invalid
  deriving DecidableEq, Repr

/-- "The position of the code in Table 11-3 counted from 0 (OK 0 to INVALID 9)" (R184). -/
def Result.code : Result → Nat
  | .ok => 0
  | .clamped => 1
  | .busy => 2
  | .badState => 3
  | .badTable => 4
  | .badIndex => 5
  | .full => 6
  | .locked => 7
  | .refused => 8
  | .invalid => 9

/-! ## Table records sent (Table 11-7) -/

/-- A window record, 10 bytes. -/
def Window.bytes (w : Window) : List Byte :=
  twoBytes w.low ++ twoBytes w.high
    ++ [byte w.segment, byte w.zone, byte w.role.code, byte w.trim, byte w.weight,
      flagBits [w.translate, w.forward, w.station, w.supervise, w.pin]]

/-- A zone record, 18 bytes. -/
def ZoneRecord.bytes (r : ZoneRecord) : List Byte :=
  [flagBits [r.present, r.autoOn, r.reportOnChange]] ++ twoBytes r.onLevel ++ twoBytes r.minOn
    ++ [byte r.step, byte r.holdTime] ++ twoBytes r.graceTime ++ [byte r.gracePercent] ++ twoBytes r.comfort
    ++ twoBytes r.setback ++ [byte r.normalFade, byte r.rezoneFade] ++ twoBytes r.spreadAlarm

/-- A classifier entry, 11 bytes. -/
def ClassifierEntry.bytes (e : ClassifierEntry) : List Byte :=
  [flagByte e.present, byte e.kindPattern.toNat, byte e.kindMask.toNat, e.pointPattern, e.pointMask]
    ++ wordBytes e.valuePattern ++ wordBytes e.valueMask ++ [byte e.cls.code, flagByte e.timesTen]

/-- A zone state record, runtime or shadow, 22 bytes, with the spread-alarm flag and effective setpoint formed for it. -/
def ZoneState.bytes (z : ZoneState) (alarm : Bool) (setpoint : Int) : List Byte :=
  [byte z.occupancy.code] ++ twoBytes z.hold ++ twoBytes z.grace ++ twoBytes z.level ++ twoBytes z.preGrace
    ++ signedBytes z.offset ++ temperatureBytes z.temperature ++ [byte z.status.code, byte z.count]
    ++ twoBytes z.spread ++ damperBytes z.damper
    ++ [flagBits [z.outputIncomplete, z.reportPending, z.frozen, alarm]] ++ signedBytes setpoint

/-- The last class or last reading of a point cache entry, two bytes. -/
def Report.bytes : Report → List Byte
  | .presence => twoBytes FrameClass.presence.code
  | .absence => twoBytes FrameClass.absence.code
  | .reading t => signedBytes t

/-- A point cache entry, 10 bytes. -/
def CacheEntry.bytes (e : CacheEntry) : List Byte :=
  twoBytes e.address ++ [byte e.role.code] ++ e.last.bytes ++ fourBytes e.second.toNat ++ [flagByte e.implausible]

/-- A presence entry, 5 bytes. -/
def PresenceEntry.bytes (e : PresenceEntry) : List Byte :=
  twoBytes e.address ++ [byte e.state.code, byte e.missed, flagByte e.heard]

/-- A notice, 6 bytes, with the enable of its condition. -/
def NoticeState.bytes (n : NoticeState) (c : Condition) (enable : Bool) : List Byte :=
  [byte c.code, flagBits [n.pending, n.occurrence, enable]] ++ twoBytes n.counter ++ scopeBytes n.firstScope

/-! ## The store image (R160) -/

/-- The stored settings as bytes, in the order of Table 9-3; the byte order within the image is the model's choice (log entry 35). -/
def Settings.bytes (c : Settings) : List Byte :=
  twoBytes c.supervisionInterval ++ twoBytes c.silentLimit ++ twoBytes c.staleLimit ++ twoBytes c.silenceLimit
    ++ twoBytes c.burstAllowance ++ twoBytes c.tracePrescale ++ c.enables.toList.map flagByte
    ++ c.forcedHold.toList.map flagByte ++ [flagByte c.closedFloor]

/-- The image but its check, as bytes, in the order of R160 (log entry 35). -/
def Image.bytes (i : Image) : List Byte :=
  twoBytes i.bank.windows.length ++ i.bank.windows.flatMap Window.bytes ++ i.bank.zones.toList.flatMap ZoneRecord.bytes
    ++ i.bank.classifier.toList.flatMap ClassifierEntry.bytes ++ twoBytes i.generation ++ i.settings.bytes

/-- "The image is valid when its check agrees with its content" (R160). -/
def Image.agrees (i : Image) : Bool := i.check == crc16 i.bytes

/-- The image written whole: its check is that of R2 over the rest of the image (R160). -/
def Image.whole (i : Image) : Image := { i with check := crc16 i.bytes }

/-- The image as a write leaves it that has not ended in success: "with a check that does not agree" (R161, log entry 8). -/
def Image.partial (i : Image) : Image := { i with check := ~~~crc16 i.bytes }

/-! ## Table records received, stored with their clamps

Each gives the record as it is stored and whether storing changed a field. -/

/-- A window stored by R36. -/
def storeWindow (bytes : List Byte) : Option (Window × Bool) :=
  match bytes with
  | [l1, l0, h1, h0, seg, zone, role, trim, weight, att] =>
    let low := clamp 1 4000 (number l1 l0)
    let high := max low (clamp 1 4000 (number h1 h0))
    let w : Window :=
      { low := low, high := high, segment := clamp 1 4 seg.toNat, zone := zone.toNat, role := Role.ofCode role.toNat,
        trim := clamp 50 100 trim.toNat, weight := clamp 1 15 weight.toNat, translate := att.getLsbD 0,
        forward := att.getLsbD 1, station := att.getLsbD 2, supervise := att.getLsbD 3, pin := att.getLsbD 4 }
    some (w, w.low != number l1 l0 || w.high != number h1 h0 || w.segment != seg.toNat || 5 < role.toNat
      || w.trim != trim.toNat || w.weight != weight.toNat)
  | _ => none

/-- A zone record stored by R58. -/
def storeZone (bytes : List Byte) : Option (ZoneRecord × Bool) :=
  match bytes with
  | [flags, on1, on0, min1, min0, step, hold, gt1, gt0, gp, c1, c0, s1, s0, nf, rf, sp1, sp0] =>
    let r : ZoneRecord :=
      { present := flags.getLsbD 0, onLevel := clamp 1 1000 (number on1 on0), minOn := clamp 1 1000 (number min1 min0),
        step := clamp 10 200 step.toNat, holdTime := clamp 1 120 hold.toNat, graceTime := clamp 0 300 (number gt1 gt0),
        gracePercent := clamp 0 100 gp.toNat, autoOn := flags.getLsbD 1, comfort := clamp 1000 3500 (number c1 c0),
        setback := clamp 1000 3500 (number s1 s0), normalFade := clamp 0 15 nf.toNat, rezoneFade := clamp 0 15 rf.toNat,
        spreadAlarm := clamp 0 1000 (number sp1 sp0), reportOnChange := flags.getLsbD 2 }
    some (r, r.onLevel != number on1 on0 || r.minOn != number min1 min0 || r.step != step.toNat
      || r.holdTime != hold.toNat || r.graceTime != number gt1 gt0 || r.gracePercent != gp.toNat
      || r.comfort != number c1 c0 || r.setback != number s1 s0 || r.normalFade != nf.toNat
      || r.rezoneFade != rf.toNat || r.spreadAlarm != number sp1 sp0)
  | _ => none

/-- A classifier entry stored by R22; of the kind pattern and mask bytes "the other bits are ignored" (Table 11-7). -/
def storeEntry (bytes : List Byte) : Option (ClassifierEntry × Bool) :=
  match bytes with
  | [present, kp, km, pp, pm, vp1, vp0, vm1, vm0, cls, scale] =>
    some
      ({ present := present != 0, kindPattern := kp.extractLsb' 0 4, kindMask := km.extractLsb' 0 4, pointPattern := pp,
         pointMask := pm, valuePattern := vp1 ++ vp0, valueMask := vm1 ++ vm0, cls := FrameClass.ofCode cls.toNat,
         timesTen := scale != 0 },
       10 < cls.toNat || 1 < scale.toNat)
  | _ => none

/-- The first `n` records of `size` bytes each. -/
def records (size : Nat) : Nat → List Byte → List (List Byte)
  | 0, _ => []
  | n + 1, bytes => bytes.take size :: records size n (bytes.drop size)

/-! ## Other bodies (Table 11-8) and trunk frames (R175) -/

/-- A ZONE_REPORT body, 21 bytes. -/
def ZoneReport.bytes (r : ZoneReport) : List Byte :=
  [byte r.zone] ++ twoBytes r.generation ++ twoBytes r.sweep ++ [byte r.occupancy.code] ++ twoBytes r.level
    ++ [byte r.status.code] ++ temperatureBytes r.temperature ++ [byte r.count] ++ twoBytes r.spread
    ++ [flagBits [r.spreadAlarm, r.outputIncomplete]] ++ signedBytes r.setpoint ++ signedBytes r.offset
    ++ damperBytes r.damper

/-- A notice record in a NOTICE body, 6 bytes; the condition class carries E as 0 and I as 1. -/
def NoticeRecord.bytes (n : NoticeRecord) : List Byte :=
  [byte n.condition.code, if n.condition.isError then 0 else 1] ++ scopeBytes n.scope ++ twoBytes n.counter

/-- A FIELD_UP body, 10 bytes. -/
def FieldUp.bytes (u : FieldUp) : List Byte := [byte u.segment, byte u.zone, byte u.cls.code] ++ u.frame.bytes

/-- A TRACE body, 7 bytes. -/
def Trace.bytes (t : Trace) : List Byte :=
  [byte t.stagedZone] ++ twoBytes t.destination ++ [byte t.kind.code] ++ twoBytes t.value ++ [byte t.sourceZone]

/-- A decoded FIELD_DOWN body; `none` when it is not 8 bytes (R176). -/
def decodeFieldDown (body : List Byte) : Option FieldDown :=
  match body with
  | [selector, b0, b1, b2, b3, b4, b5, b6] => some { selector := selector.toNat, frame := frameOf b0 b1 b2 b3 b4 b5 b6 }
  | _ => none

/-- A trunk frame but its length and check (Table 11-1). -/
structure TrunkFrame where
  destination : Byte
  source : Byte
  kind : Byte
  tag : Byte
  body : List Byte
  deriving DecidableEq, Repr

/-- The bytes of a trunk frame before its check (Table 11-1). -/
def TrunkFrame.covered (f : TrunkFrame) : List Byte :=
  [f.destination, f.source, f.kind, f.tag, byte f.body.length] ++ f.body

/-- The bytes of a trunk frame on the trunk (Table 11-1). -/
def TrunkFrame.wire (f : TrunkFrame) : List Byte := f.covered ++ checkBytes f.covered

/-- A received burst as a trunk frame; `none` when a condition of R175 discards it. -/
def receiveTrunk (bytes : List Byte) : Option TrunkFrame :=
  match bytes with
  | destination :: source :: kind :: tag :: len :: rest =>
    if bytes.length ≠ 7 + len.toNat then none
    else if 240 < len.toNat then none
    else if bytes.drop (5 + len.toNat) ≠ checkBytes (bytes.take (5 + len.toNat)) then none
    else if kind = 0 ∨ 7 < kind.toNat then none
    else some { destination, source, kind, tag, body := rest.take len.toNat }
  | _ => none

/-- "A strapped 0 is taken as 1, and a strapped 255 as 254" (R176). -/
def strappedAddress (straps : BitVec 8) : Byte := if straps = 0 then 1 else if straps = 255 then 254 else straps

/-! ## Management request bodies (Table 11-6) -/

/-- The request code of a body; none when the body is empty. -/
def requestCode (body : List Byte) : Option Nat := body.head?.map BitVec.toNat

/-- The record size of the table with this code; none for a code that names no table (Table 11-7). -/
def recordSize : Nat → Option Nat
  | 0 => some 10
  | 1 => some 10
  | 2 => some 18
  | 3 => some 18
  | 4 => some 22
  | 5 => some 22
  | 6 => some 11
  | 7 => some 11
  | 8 => some 10
  | 9 => some 5
  | 10 => some 6
  | _ => none

/-- The length of a WRITE_STAGED body fits the table it names (Table 11-6). -/
def writeLengthOk (body : List Byte) : Bool :=
  match body with
  | _ :: table :: _ :: _ :: rest =>
    match recordSize table.toNat with
    | some size => rest.length % size == 0
    | none => true
  | _ => false

/-- The body has the length Table 11-6 gives for the request code it begins with. -/
def lengthOk (body : List Byte) : Bool :=
  match requestCode body with
  | some 3 => body.length == 5
  | some 4 => writeLengthOk body
  | some 5 => body.length == 14
  | some 6 => body.length == 4
  | some 7 => body.length == 4
  | some 15 => body.length == 5
  | some 16 => body.length == 4
  | some 17 => body.length == 5
  | some 18 => body.length == 5
  | some 19 => body.length == 2
  | some 21 => true
  | some _ => body.length == 1
  | none => false

end Sys2Proof.Machine
end

