-- ==== Sys2Proof/Machine/Tables.lean ====
section
/-! DEFINITION. Reading and writing the numbered tables (zones 1 to 255, segments 1 to 4, conditions by code) and the lists
kept in ascending address order. -/

namespace Sys2Proof.Machine

/-- Entry `i` of a table numbered from 1; `d` where the table has no such number. -/
def nth {α : Type} {n : Nat} (t : Vector α n) (d : α) (i : Nat) : α :=
  match i with
  | 0 => d
  | k + 1 => (t[k]?).getD d

/-- The table with `v` as entry `i`, numbered from 1; the same table where it has no such number. -/
def put {α : Type} {n : Nat} (t : Vector α n) (i : Nat) (v : α) : Vector α n :=
  match i with
  | 0 => t
  | k + 1 => t.setIfInBounds k v

/-- The table with `f` applied to every entry and its number from 1. -/
def mapNumbered {α β : Type} {n : Nat} (t : Vector α n) (f : Nat → α → β) : Vector β n := t.mapIdx fun i v => f (i + 1) v

/-- Zone numbers 1 to 255, in ascending order. -/
def zoneNumbers : List Nat := List.range' 1 255

/-- Segment numbers 1 to 4, in ascending order. -/
def segmentNumbers : List Nat := List.range' 1 4

/-- The first zone number above `after` for which `p` holds. -/
def nextZone (p : Nat → Bool) (after : Nat) : Option Nat := zoneNumbers.find? fun z => decide (after < z) && p z

/-- `e` placed in a list kept in strictly ascending order of `key`, in place of any entry of its key. -/
def insertAscending {α : Type} (key : α → Nat) (e : α) : List α → List α
  | [] => [e]
  | x :: xs =>
    if key e < key x then e :: x :: xs
    else if key e = key x then e :: xs
    else x :: insertAscending key e xs

/-! ## The numbered parts of the state -/

/-- Segment `n`. -/
def State.segment (s : State) (n : Nat) : Segment := nth s.segments .afterReset n

/-- Segment `n` set to `g`. -/
def State.setSegment (s : State) (n : Nat) (g : Segment) : State := { s with segments := put s.segments n g }

/-- The runtime record of zone `z` (R60). -/
def State.zone (s : State) (z : Nat) : ZoneState := nth s.zones .idle z

/-- The runtime record of zone `z` set to `v`. -/
def State.setZone (s : State) (z : Nat) (v : ZoneState) : State := { s with zones := put s.zones z v }

/-- The shadow record of zone `z` (R64). -/
def State.shadowZone (s : State) (z : Nat) : ZoneState := nth s.shadow .idle z

/-- The shadow record of zone `z` set to `v`. -/
def State.setShadow (s : State) (z : Nat) (v : ZoneState) : State := { s with shadow := put s.shadow z v }

/-- The record of zone `z` in a bank (R57). -/
def Bank.zone (b : Bank) (z : Nat) : ZoneRecord := nth b.zones .cleared z

/-- The active zone record of zone `z`. -/
def State.record (s : State) (z : Nat) : ZoneRecord := s.active.zone z

/-- The staged zone record of zone `z`. -/
def State.stagedRecord (s : State) (z : Nat) : ZoneRecord := s.staged.zone z

/-- The Notice Unit's record of a condition (R170). -/
def State.notice (s : State) (c : Condition) : NoticeState := nth s.notices .clear (c.code + 1)

/-- The notice enable of a condition (Table 9-3). -/
def State.enabled (s : State) (c : Condition) : Bool := nth s.settings.enables true (c.code + 1)

/-- The forced-hold setting of segment `n` (R13). -/
def State.forcedHold (s : State) (n : Nat) : Bool := nth s.settings.forcedHold false n

/-- The point cache entry of an address (R99). -/
def cacheEntry (cache : List CacheEntry) (a : Nat) : Option CacheEntry := cache.find? fun e => e.address == a

/-- The presence entry of an address (R163). -/
def presenceEntry (table : List PresenceEntry) (a : Nat) : Option PresenceEntry := table.find? fun e => e.address == a

/-- The age of what was stamped at `second`: "the present device time less the arrival second" (R7). -/
def State.age (s : State) (second : Second) : Nat := (s.deviceTime - second).toNat

end Sys2Proof.Machine
end

