-- ==== Sys2Proof/Machine/Classifier.lean ====
section
/-! DEFINITION. The Frame Classifier (chapter 2): match key, matching, the winning entry, readings, and the role check. -/

namespace Sys2Proof.Machine

/-- The 28-bit match key of a frame (R24, Table 2-3). -/
def matchKey (f : FieldFrame) : BitVec 28 := f.kind ++ f.point ++ f.value

/-- An entry's pattern, laid out as the key (R24). -/
def ClassifierEntry.pattern (e : ClassifierEntry) : BitVec 28 := e.kindPattern ++ e.pointPattern ++ e.valuePattern

/-- An entry's mask, laid out as the key (R24). -/
def ClassifierEntry.mask (e : ClassifierEntry) : BitVec 28 := e.kindMask ++ e.pointMask ++ e.valueMask

/-- The entry matches: present, and equal to the key at every position where the mask has a one (R25). -/
def ClassifierEntry.matchesFrame (e : ClassifierEntry) (f : FieldFrame) : Bool :=
  e.present && (matchKey f ^^^ e.pattern) &&& e.mask == 0

/-- The winning entry: the first that matches, in ascending index order (R26). -/
def winningEntry (table : Vector ClassifierEntry 32) (f : FieldFrame) : Option ClassifierEntry :=
  table.toList.find? fun e => e.matchesFrame f

/-- The class of a frame: that of the winning entry, and PASS when there is none (R26, R27). -/
def classOf (table : Vector ClassifierEntry 32) (f : FieldFrame) : FrameClass :=
  match winningEntry table f with
  | some e => e.cls
  | none => .pass

/-- The reading t of a value with a scale (R30). -/
def reading (timesTen : Bool) (value : BitVec 16) : Int :=
  saturate (-4000) 8500 (value.toInt * (if timesTen then 10 else 1))

/-- The reading of a frame under the scale of its winning entry (R30). -/
def readingOf (table : Vector ClassifierEntry 32) (f : FieldFrame) : Int :=
  reading (((winningEntry table f).map ClassifierEntry.timesTen).getD false) f.value

/-- "The classes PRESENCE to SET_COOLER are the acting classes" (R29). -/
def FrameClass.acting : FrameClass → Bool
  | .pass => false
  | .ignore => false
  | _ => true

/-- A role accepts an acting class (Table 2-6). -/
def Role.accepts : Role → FrameClass → Bool
  | .occupancySensor, .presence => true
  | .occupancySensor, .absence => true
  | .temperatureSensor, .temperature => true
  | .keypad, .keyOn => true
  | .keypad, .keyOff => true
  | .keypad, .keyRaise => true
  | .keypad, .keyLower => true
  | .keypad, .setWarmer => true
  | .keypad, .setCooler => true
  | _, _ => false

end Sys2Proof.Machine
end

