-- ==== Sys2Proof/Machine/Map.lean ====
section
/-! DEFINITION. The Membership Map (chapter 3): lookup, members and targets of a zone, supervised addresses, the pin test. -/

namespace Sys2Proof.Machine

/-- A lookup (R40): the first window whose high is at least `a`, a hit when its low is at most `a`. -/
def lookup (windows : List Window) (a : Nat) : Option Window :=
  match windows.find? fun w => decide (a ≤ w.high) with
  | some w => if w.low ≤ a then some w else none
  | none => none

/-- The addresses of a window, "from low to high". -/
def Window.addresses (w : Window) : List Nat := List.range' w.low (w.high + 1 - w.low)

/-- "A window holds high − low + 1 addresses" (R134). -/
def Window.size (w : Window) : Nat := w.high + 1 - w.low

/-- `a` lies in the window. -/
def Window.covers (w : Window) (a : Nat) : Bool := decide (w.low ≤ a) && decide (a ≤ w.high)

/-- The window makes its addresses members of zone `z` (R43). -/
def Window.joins (w : Window) (z : Nat) : Bool := w.translate && w.zone == z

/-- `a` is a member of zone `z` under a window list (R43). -/
def memberOf (windows : List Window) (z a : Nat) : Bool := windows.any fun w => w.joins z && w.covers a

/-- The members of zone `z`, in list order. -/
def members (windows : List Window) (z : Nat) : List Nat :=
  (windows.filter fun w => w.joins z).flatMap Window.addresses

/-- The members of zone `z` in windows of a role, each with its window, in list order (R65, R81, R106). -/
def membersOfRole (windows : List Window) (z : Nat) (role : Role) : List (Window × Nat) :=
  (windows.filter fun w => w.joins z && w.role == role).flatMap fun w => w.addresses.map fun a => (w, a)

/-- The supervised addresses of a window list (R46). -/
def supervisedAddresses (windows : List Window) : List Nat :=
  (windows.filter fun w => w.supervise).flatMap Window.addresses

/-- "A zone is pinned when at least one window of the active list that names it has Pin set" (R54). -/
def pinned (windows : List Window) (z : Nat) : Bool := windows.any fun w => w.pin && w.zone == z

/-- Two windows agree in low, high, segment, zone and role (R55). -/
def Window.samePlace (w v : Window) : Bool :=
  w.low == v.low && w.high == v.high && w.segment == v.segment && w.zone == v.zone && w.role == v.role

/-- The same addresses are members of zone `z` under both lists (R55, condition 3). -/
def sameMembers (old new : List Window) (z : Nat) : Bool :=
  (members old z).all (memberOf new z) && (members new z).all (memberOf old z)

/-- The pin test of the bank `new` against the active bank `old` (R55), with the zone reported for the first failure (R135);
`none` when it passes. -/
def pinTest (old new : Bank) : Option Nat :=
  match old.windows.find? fun w => w.pin && !(new.windows.any fun v => v.samePlace w) with
  | some w => some w.zone
  | none =>
    match zoneNumbers.find? fun z =>
        pinned old.windows z && (!(new.zone z).present || new.zone z != old.zone z) with
    | some z => some z
    | none => zoneNumbers.find? fun z => pinned old.windows z && !sameMembers old.windows new.windows z

/-- The presence table of a window list: one entry for each supervised address, the entry it had or an UNKNOWN one (R163). -/
def presenceTable (windows : List Window) (old : List PresenceEntry) : List PresenceEntry :=
  (supervisedAddresses windows).foldl
    (fun table a =>
      insertAscending PresenceEntry.address
        ((presenceEntry old a).getD { address := a, state := .unknown, missed := 0, heard := false }) table)
    []

end Sys2Proof.Machine
end

