-- ==== Sys2Proof/Machine/Climate.lean ====
section
/-! DEFINITION. The Climate Aggregator (chapter 6): freshness, included readings, the weighted mean, spread, and the writing of
the point cache. -/

namespace Sys2Proof.Machine

/-- "An entry is fresh when its age is at most the stale limit in force" (R102). -/
def State.fresh (s : State) (e : CacheEntry) : Bool := decide (s.age e.second ≤ s.settings.staleLimit)

/-- The address gives fresh presence: its entry's last class is PRESENCE, and it is fresh (R81). -/
def State.givesPresence (s : State) (a : Nat) : Bool :=
  match cacheEntry s.cache a with
  | some e => decide (e.last = .presence) && s.fresh e
  | none => false

/-- Zone `z` has fresh presence under a window list (R81, R98). -/
def State.freshPresence (s : State) (windows : List Window) (z : Nat) : Bool :=
  (membersOfRole windows z .occupancySensor).any fun m => s.givesPresence m.2

/-- The reading an address contributes, if it is included (R106). -/
def State.includedReading (s : State) (a : Nat) : Option Int :=
  match cacheEntry s.cache a with
  | some e =>
    match e.last with
    | .reading t => if e.role = .temperatureSensor ∧ e.implausible = false ∧ s.fresh e = true then some t else none
    | _ => none
  | none => none

/-- The included readings of zone `z` under a window list, each with the weight of its window (R106). -/
def State.includedReadings (s : State) (windows : List Window) (z : Nat) : List (Nat × Int) :=
  (membersOfRole windows z .temperatureSensor).filterMap fun m => (s.includedReading m.2).map fun t => (m.1.weight, t)

/-- S, the sum of w × t (R107). -/
def weightedSum (rs : List (Nat × Int)) : Int := (rs.map fun r => (r.1 : Int) * r.2).sum

/-- W, the sum of the weights (R107). -/
def weightTotal (rs : List (Nat × Int)) : Nat := (rs.map Prod.fst).sum

/-- The weighted mean ⌊(2S + W) / (2W)⌋ (R107). -/
def weightedMean (rs : List (Nat × Int)) : Int := (2 * weightedSum rs + weightTotal rs) / (2 * weightTotal rs)

/-- "The largest included reading less the smallest" (R110). -/
def readingSpread : List (Nat × Int) → Nat
  | [] => 0
  | r :: rs => (rs.foldl (fun m x => max m x.2) r.2 - rs.foldl (fun m x => min m x.2) r.2).toNat

/-- A zone state after a temperature computation over the included readings (R107, R108). -/
def ZoneState.withReadings (z : ZoneState) (rs : List (Nat × Int)) : ZoneState :=
  if weightTotal rs = 0 then
    match z.status with
    | .none => { z with temperature := none, status := .none, count := 0, spread := 0 }
    | .valid => { z with status := .stale, count := 0, spread := 0 }
    | .stale => { z with status := .stale, count := 0, spread := 0 }
  else
    { z with temperature := some (weightedMean rs), status := .valid, count := rs.length, spread := readingSpread rs }

/-- "A reading t lies in the plausibility band when 0 ≤ t ≤ 5000" (R101). -/
def plausible (t : Int) : Bool := decide (0 ≤ t) && decide (t ≤ 5000)

/-- The report's implausible flag: "always no in an OCCUPANCY_SENSOR entry" (R99, R101). -/
def Report.implausible : Report → Bool
  | .presence => false
  | .absence => false
  | .reading t => !plausible t

/-- The point cache with a sensor's report written: created with the window's role, or replaced with the role kept (R100). -/
def writeCache (cache : List CacheEntry) (a : Nat) (role : Role) (last : Report) (second : Second) : List CacheEntry :=
  insertAscending CacheEntry.address
    { address := a, role := ((cacheEntry cache a).map CacheEntry.role).getD role, last := last, second := second,
      implausible := last.implausible }
    cache

/-- The point cache after the removal at cutover completion, against the new list (R103). -/
def removeMoved (windows : List Window) (cache : List CacheEntry) : List CacheEntry :=
  cache.filter fun e =>
    match lookup windows e.address with
    | some w => w.role == e.role
    | none => false

end Sys2Proof.Machine
end

