-- ==== Sys2Proof/Machine/Occupancy.lean ====
section
/-! DEFINITION. The occupancy machine of one zone (chapter 5) and the zone actions (section 4.4), as functions of a zone record
and a zone state. The runtime and the shadow machines (R98) are both this one. -/

namespace Sys2Proof.Machine

/-- A level as every writer of L stores it: "every nonzero level written is raised to the min-on level when below it and
limited to 1000" (R61). -/
def ZoneRecord.bound (r : ZoneRecord) (l : Nat) : Nat := if l = 0 then 0 else min 1000 (max r.minOn l)

/-- The full hold: hold time × 60 s. -/
def ZoneRecord.fullHold (r : ZoneRecord) : Nat := r.holdTime * 60

/-- The grace level of a level P (R83). -/
def ZoneRecord.graceLevel (r : ZoneRecord) (p : Nat) : Nat :=
  if p = 0 ∨ r.gracePercent = 0 then 0 else max r.minOn ((p * r.gracePercent + 50) / 100)

/-- The fixture level of a zone level and a trim (R67). -/
def fixtureLevel (level trim : Nat) : Nat := if level = 0 then 0 else max 1 ((level * trim + 50) / 100)

/-- The zone state with L written (R61). -/
def ZoneState.withLevel (z : ZoneState) (r : ZoneRecord) (l : Nat) : ZoneState := { z with level := r.bound l }

/-- A hold restart (R80): the timer runs from the full hold, and no expiry of it is due. -/
def ZoneState.restart (z : ZoneState) (r : ZoneRecord) : ZoneState := { z with hold := r.fullHold, expiring := false }

/-- Entering OCCUPIED (R78). -/
def ZoneState.occupy (z : ZoneState) (r : ZoneRecord) : ZoneState := { z.restart r with occupancy := .occupied }

/-- Entering VACANT (R78). -/
def ZoneState.vacate (z : ZoneState) : ZoneState :=
  { z with occupancy := .vacant, level := 0, offset := 0, expiring := false }

/-- Entering GRACE from the present level (R82). -/
def ZoneState.enterGrace (z : ZoneState) (r : ZoneRecord) : ZoneState :=
  { z with
    occupancy := .grace
    preGrace := z.level
    level := r.bound (r.graceLevel z.level)
    grace := r.graceTime
    expiring := false }

/-- PRESENCE (R87). -/
def ZoneState.onPresence (z : ZoneState) (r : ZoneRecord) : ZoneState :=
  match z.occupancy with
  | .vacant => (z.occupy r).withLevel r (if r.autoOn then r.onLevel else 0)
  | .occupied => z.restart r
  | .grace => (z.occupy r).withLevel r z.preGrace

/-- The step of a setpoint press, saturated at ±300 (R92). -/
def stepOffset (offset change : Int) : Int := saturate (-300) 300 (offset + change)

/-- A keypad or setpoint class in VACANT (R90). -/
def ZoneState.pressVacant (z : ZoneState) (r : ZoneRecord) : FrameClass → ZoneState
  | .keyOn => (z.occupy r).withLevel r r.onLevel
  | .keyRaise => (z.occupy r).withLevel r r.minOn
  | .keyLower => (z.occupy r).withLevel r 0
  | .setWarmer => { (z.occupy r).withLevel r 0 with offset := 50 }
  | .setCooler => { (z.occupy r).withLevel r 0 with offset := -50 }
  | _ => z

/-- A keypad or setpoint class in OCCUPIED (R91, R92). -/
def ZoneState.pressOccupied (z : ZoneState) (r : ZoneRecord) : FrameClass → ZoneState
  | .keyOn => z.withLevel r r.onLevel
  | .keyOff => z.withLevel r 0
  | .keyRaise => z.withLevel r (if z.level = 0 then r.minOn else min (z.level + r.step) 1000)
  | .keyLower => if z.level = 0 then z else z.withLevel r (max (z.level - r.step) r.minOn)
  | .setWarmer => { z with offset := stepOffset z.offset 50 }
  | .setCooler => { z with offset := stepOffset z.offset (-50) }
  | _ => z

/-- A keypad or setpoint class (R90 to R93): in GRACE the zone "first returns to OCCUPIED as a PRESENCE would". -/
def ZoneState.onPress (z : ZoneState) (r : ZoneRecord) (c : FrameClass) : ZoneState :=
  match z.occupancy with
  | .vacant => z.pressVacant r c
  | .occupied => z.pressOccupied r c
  | .grace => (z.onPresence r).pressOccupied r c

/-- An acting class at the occupancy machine (Table 5-1); ABSENCE makes no change (R88), and TEMPERATURE, PASS and IGNORE do
not reach the machine (R79). -/
def ZoneState.onClass (z : ZoneState) (r : ZoneRecord) : FrameClass → ZoneState
  | .presence => z.onPresence r
  | .keyOn => z.onPress r .keyOn
  | .keyOff => z.onPress r .keyOff
  | .keyRaise => z.onPress r .keyRaise
  | .keyLower => z.onPress r .keyLower
  | .setWarmer => z.onPress r .setWarmer
  | .setCooler => z.onPress r .setCooler
  | .absence => z
  | .temperature => z
  | .pass => z
  | .ignore => z

/-- A hold expiry, "the event at which it reaches 0" (R80, R81, Table 5-2). -/
def ZoneState.onHoldExpiry (z : ZoneState) (r : ZoneRecord) (freshPresence : Bool) : ZoneState :=
  if freshPresence then z.restart r
  else if r.graceTime = 0 then ({ z with hold := 0 } : ZoneState).vacate
  else ({ z with hold := 0 } : ZoneState).enterGrace r

/-- A grace expiry, "the event at which grace remaining reaches 0" (R84). -/
def ZoneState.onGraceExpiry (z : ZoneState) : ZoneState := ({ z with grace := 0 } : ZoneState).vacate

/-- One second of device time at a zone's timers (R80, R84): the timer of the state the zone is in counts while the zone is not
frozen. The second that takes it to 0 makes its expiry due, which is the event that does so (log entry 13). -/
def ZoneState.tick (z : ZoneState) : ZoneState :=
  if z.frozen then z
  else
    match z.occupancy with
    | .vacant => z
    | .occupied => if z.hold ≤ 1 then { z with expiring := true } else { z with hold := z.hold - 1 }
    | .grace => if z.grace ≤ 1 then { z with expiring := true } else { z with grace := z.grace - 1 }

/-- The level of a ZONE_SET_LEVEL after clamping (R75). -/
def ZoneRecord.clampLevel (r : ZoneRecord) (requested : Nat) : Nat :=
  if requested = 0 then 0 else min 1000 (max r.minOn requested)

/-- ZONE_SET_LEVEL with the clamped level `v` (R75). -/
def ZoneState.setLevel (z : ZoneState) (r : ZoneRecord) (v : Nat) : ZoneState :=
  match z.occupancy with
  | .vacant => if v = 0 then z.withLevel r 0 else (z.occupy r).withLevel r v
  | .occupied => z.withLevel r v
  | .grace => (z.occupy r).withLevel r v

/-- ZONE_FORCE OCCUPIED (R76). -/
def ZoneState.forceOccupied (z : ZoneState) (r : ZoneRecord) : ZoneState :=
  match z.occupancy with
  | .vacant => (z.occupy r).withLevel r (if r.autoOn then r.onLevel else 0)
  | .occupied => z.restart r
  | .grace => (z.occupy r).withLevel r z.preGrace

/-- ZONE_FORCE VACANT (R76). -/
def ZoneState.forceVacant (z : ZoneState) : ZoneState :=
  match z.occupancy with
  | .vacant => z
  | .occupied => z.vacate
  | .grace => z.vacate

/-- The state of a present zone after a store load or a warm restart (R62, R63). -/
def ZoneRecord.litState (r : ZoneRecord) : ZoneState :=
  ({ ZoneState.idle with occupancy := .occupied, hold := r.fullHold } : ZoneState).withLevel r r.onLevel

/-- The effective setpoint (R111). -/
def ZoneState.setpoint (z : ZoneState) (r : ZoneRecord) : Int :=
  saturate 1000 3500
    ((match z.occupancy with
      | .vacant => (r.setback : Int)
      | .occupied => (r.comfort : Int)
      | .grace => (r.comfort : Int)) + z.offset)

/-- The spread-alarm flag (R110). -/
def ZoneState.spreadAlarm (z : ZoneState) (r : ZoneRecord) : Bool := r.spreadAlarm != 0 && decide (r.spreadAlarm < z.spread)

end Sys2Proof.Machine
end

