-- ==== Sys2Proof/Machine/Inheritance.lean ====
section
/-! DEFINITION. The state a new zone takes over at a cutover (section 9.2): contributors, dominance, the computed state. The
same computation seeds rehearsal (R139). -/

namespace Sys2Proof.Machine

/-- The contributors of new zone `z`, in ascending zone number (R150). -/
def contributors (old new : List Window) (z : Nat) : List Nat :=
  zoneNumbers.filter fun y => (members new z).any (memberOf old y)

/-- The moving luminaires from old zone `y` to new zone `z` (R150). -/
def movingLuminaires (old new : List Window) (y z : Nat) : Nat :=
  ((membersOfRole new z .luminaire).filter fun m => memberOf old y m.2).length

/-- The moving addresses from old zone `y` to new zone `z` (R150). -/
def movingAddresses (old new : List Window) (y z : Nat) : Nat := ((members new z).filter (memberOf old y)).length

/-- Contributor `y` comes before contributor `b`, of lower number, in dominance over new zone `z` (R150). -/
def outranks (old new : List Window) (z y b : Nat) : Bool :=
  decide (movingLuminaires old new b z < movingLuminaires old new y z)
    || (movingLuminaires old new b z == movingLuminaires old new y z
      && decide (movingAddresses old new b z < movingAddresses old new y z))

/-- The dominant contributor of new zone `z` (R150). -/
def dominant (old new : List Window) (z : Nat) : Option Nat :=
  (contributors old new z).foldl
    (fun best y =>
      match best with
      | none => some y
      | some b => if outranks old new z y b then some y else some b)
    none

/-- The largest of a remaining time among zones. -/
def largest (f : Nat → Nat) (zs : List Nat) : Nat := zs.foldl (fun m y => max m (f y)) 0

/-- The computed state of a new zone with record `r`, from the contributors' states and the dominant contributor's state, its
temperature fields not yet computed (R151, R152). -/
def inheritFrom (r : ZoneRecord) (zones : Nat → ZoneState) (contributing : List Nat) (dom : ZoneState) : ZoneState :=
  let occupied := contributing.filter fun y => (zones y).occupancy == .occupied
  let grace := contributing.filter fun y => (zones y).occupancy == .grace
  if occupied ≠ [] then
    { ZoneState.idle with
      occupancy := .occupied
      hold := min (largest (fun y => (zones y).hold) occupied) r.fullHold
      level := r.bound (if dom.occupancy = .vacant then r.onLevel else dom.level)
      offset := dom.offset
      damper := dom.damper }
  else if grace ≠ [] ∧ r.graceTime ≠ 0 then
    let p := r.bound (if dom.occupancy = .grace then dom.preGrace else r.onLevel)
    { ZoneState.idle with
      occupancy := .grace
      grace := min (largest (fun y => (zones y).grace) grace) r.graceTime
      preGrace := p
      level := r.bound (r.graceLevel p)
      offset := dom.offset
      damper := dom.damper }
  else { ZoneState.idle with damper := dom.damper }

/-- The computed state of new zone `z` of the staged bank, from the active list, the runtime records and the point cache as they
stand (R150 to R152). -/
def State.computedState (s : State) (z : Nat) : ZoneState :=
  let old := s.active.windows
  let new := s.staged.windows
  (match dominant old new z with
    | none => ZoneState.idle
    | some d => inheritFrom (s.stagedRecord z) s.zone (contributors old new z) (s.zone d)).withReadings
    (s.includedReadings new z)

/-- A pinned zone's record carried under the record `r`: a nonzero L or pre-grace level below the min-on level is raised
(R139, R156). -/
def ZoneState.carried (z : ZoneState) (r : ZoneRecord) : ZoneState :=
  { z with level := r.bound z.level, preGrace := r.bound z.preGrace }

/-- The shadow record that seeding writes for zone `z`; its timers "count from the acceptance" (R139). -/
def State.seed (s : State) (z : Nat) : ZoneState :=
  if (s.stagedRecord z).present then
    if pinned s.active.windows z then
      { (s.zone z).carried (s.stagedRecord z) with
        outputIncomplete := false
        reportPending := false
        frozen := false
        expiring := false }
    else s.computedState z
  else .idle

end Sys2Proof.Machine
end

