-- ==== Sys2Proof/Machine/Validation.lean ====
section
/-! DEFINITION. The validation checks (Table 8-3), each giving the index it reports when it fails. -/

namespace Sys2Proof.Machine

/-- ORDER: the later window of the first pair whose highs and lows do not ascend; `i` is the index of the first window. -/
def checkOrder (i : Nat) : List Window → Option Nat
  | w :: v :: rest => if w.high < v.low then checkOrder (i + 1) (v :: rest) else some (i + 1)
  | _ => none

/-- The index of the first window for which `p` holds. -/
def firstWindow (p : Window → Bool) (windows : List Window) : Option Nat := windows.findIdx? p

/-- ZONE_MISSING. -/
def checkZoneMissing (b : Bank) : Option Nat :=
  firstWindow (fun w => w.translate && w.zone != 0 && !(b.zone w.zone).present) b.windows

/-- ZONE_ZERO. -/
def checkZoneZero (b : Bank) : Option Nat := firstWindow (fun w => w.translate && w.zone == 0) b.windows

/-- LEVELS. -/
def checkLevels (b : Bank) : Option Nat :=
  zoneNumbers.find? fun z => (b.zone z).present && decide ((b.zone z).onLevel < (b.zone z).minOn)

/-- The addresses that the windows for which `p` holds hold together. -/
def addressesIn (p : Window → Bool) (windows : List Window) : Nat := ((windows.filter p).map Window.size).sum

/-- ACTUATOR_LIMIT: more than 64 luminaire and damper addresses. -/
def checkActuators (b : Bank) : Option Nat :=
  zoneNumbers.find? fun z =>
    decide (64 < addressesIn (fun w => w.joins z && (w.role == .luminaire || w.role == .damper)) b.windows)

/-- TEMP_LIMIT: more than 32 temperature sensor addresses. -/
def checkTemperatures (b : Bank) : Option Nat :=
  zoneNumbers.find? fun z => decide (32 < addressesIn (fun w => w.joins z && w.role == .temperatureSensor) b.windows)

/-- SENSOR_TOTAL: the window at which the running total, now `total` at index `i`, first exceeds 1,024. -/
def checkSensorTotal (i total : Nat) : List Window → Option Nat
  | [] => none
  | w :: rest =>
    if w.role = .occupancySensor ∨ w.role = .temperatureSensor then
      if 1024 < total + w.size then some i else checkSensorTotal (i + 1) (total + w.size) rest
    else checkSensorTotal (i + 1) total rest

/-- PIN_ATTRIBUTE. -/
def checkPinAttribute (b : Bank) : Option Nat := firstWindow (fun w => w.pin && !w.translate) b.windows

/-- The first check that fails of checks 1 to 8, in the order of Table 8-3, with the index it reports (R133, R134). -/
def firstFailure (b : Bank) : Option (Check × Nat) :=
  (checkOrder 0 b.windows).map (Prod.mk Check.order)
    <|> (checkZoneMissing b).map (Prod.mk Check.zoneMissing)
    <|> (checkZoneZero b).map (Prod.mk Check.zoneZero)
    <|> (checkLevels b).map (Prod.mk Check.levels)
    <|> (checkActuators b).map (Prod.mk Check.actuatorLimit)
    <|> (checkTemperatures b).map (Prod.mk Check.tempLimit)
    <|> (checkSensorTotal 0 0 b.windows).map (Prod.mk Check.sensorTotal)
    <|> (checkPinAttribute b).map (Prod.mk Check.pinAttribute)

/-- The validation result a VALIDATE of bank `staged` writes, against the active bank (R133, R135). -/
def validationOf (active staged : Bank) (maint : Bool) : ValidationResult :=
  match firstFailure staged with
  | some (c, i) => { outcome := .failed, check := some c, index := some i, reliance := false }
  | none =>
    match pinTest active staged with
    | none => { outcome := .passed, check := none, index := none, reliance := false }
    | some z =>
      if maint then { outcome := .passed, check := none, index := some z, reliance := true }
      else { outcome := .failed, check := some .pinConflict, index := some z, reliance := false }

end Sys2Proof.Machine
end

