-- ==== Sys2Proof/WellFormed.lean ====
section
/-! DEFINITION. Which commands name something the part has: a segment 1 to 4, a zone 1 to 255, a burst of at least one byte. -/

namespace Sys2Proof

/-- "Segment numbers run from 1 to 4" (section 3.2). -/
abbrev isSegment (n : Nat) : Bool := 1 ≤ n && n ≤ 4

/-- "… and zone numbers from 1 to 255" (section 3.2). -/
abbrev isZone (z : Nat) : Bool := 1 ≤ z && z ≤ 255

/-- The operands of a command name a segment, a zone and a burst that exist. -/
def Instr.wellFormed : Instr → Bool
  | .receptionStart n => isSegment n
  | .receptionCompletion n bytes => isSegment n && !bytes.isEmpty
  | .segmentSilenceExpiry n => isSegment n
  | .transmissionStart n => isSegment n
  | .transmitCompletion n => isSegment n
  | .holdExpiry z => isZone z
  | .graceExpiry z => isZone z
  | .shadowHoldExpiry z => isZone z
  | .shadowGraceExpiry z => isZone z
  | .trunkFrameReceived bytes => !bytes.isEmpty
  | .coldReset => true
  | .coldResetEnd _ => true
  | .loadCompletion => true
  | .deviceTimeAdvance => true
  | .take => true
  | .translationCompletion => true
  | .trunkTransmitStart => true
  | .trunkTransmitCompletion => true
  | .trunkLoss => true
  | .trunkRestoration => true
  | .maintChange _ => true
  | .identify => true
  | .readStatus => true
  | .readTable => true
  | .writeStaged => true
  | .insertWindow => true
  | .deleteWindow => true
  | .clearEntry => true
  | .copyActive => true
  | .discardStaged => true
  | .validate => true
  | .rehearseStart => true
  | .rehearseStop => true
  | .cutover => true
  | .walkBegin => true
  | .walkStepCompletion => true
  | .cutoverCompletion => true
  | .abortCutover => true
  | .zoneSetLevel => true
  | .zoneForce => true
  | .zoneSetDamper => true
  | .setParameter => true
  | .setClosedFloor => true
  | .flushReadings => true
  | .clearPending => true
  | .clearOccurrences => true
  | .restart => true
  | .storeWriteCompletion _ => true
  | .sweepTimerExpiry => true
  | .sweepStart => true
  | .presencePass => true
  | .zoneTemperatureComputation => true
  | .shadowTemperatureComputation => true
  | .refresh => true
  | .unknownRequestName => true

end Sys2Proof
end

