-- ==== Sys2Proof/Machine/Flags.lean ====
section
/-! DEFINITION. The conditions under which events are due, and the other yes/no facts the blocks read from the state. -/

namespace Sys2Proof.Machine

/-- The Plan Store is WRITING (R161). -/
def State.writing (s : State) : Bool := s.store.writing

/-- The part runs: RESETN is high (section 3.6, R19). -/
def State.running (s : State) : Bool := !s.resetLow

/-- A refresh of zone `z` is to be made: present, output-incomplete, and not frozen (R72, R168). -/
def State.needsRefresh (s : State) (z : Nat) : Bool :=
  (s.record z).present && (s.zone z).outputIncomplete && !(s.zone z).frozen

/-- A take is due (R10, R11): some queue holds a record, the engine is free, the gate is open and no load is in progress. -/
def State.takeDue (s : State) : Bool :=
  s.running && !s.loading && s.engine.gateOpen && s.engine.current.isNone
    && segmentNumbers.any fun n => !(s.segment n).ingress.isEmpty

/-- The segments in the order a take examines them (R10): "pointer, pointer + 1, and so on cyclically". -/
def takeOrder (pointer : Nat) : List Nat := [0, 1, 2, 3].map fun k => (pointer + 3 + k) % 4 + 1

/-- The segment a take serves: the first of that order with a record (R10). -/
def State.takeFrom (s : State) : Option Nat :=
  (takeOrder s.engine.pointer).find? fun n => !(s.segment n).ingress.isEmpty

/-- A reception may begin on segment `n`: no reception is in progress, and the receiver "does not assemble bytes into a frame
while its own segment's transmitter is sending" (R3, R4). -/
def State.receptionDue (s : State) (n : Nat) : Bool :=
  s.running && isSegment n && !(s.segment n).receiving && (s.segment n).transmitting.isNone

/-- The silence of segment `n` has reached the limit in force while it is UP (R17). -/
def State.silenceDue (s : State) (n : Nat) : Bool :=
  s.running && decide ((s.segment n).line = .up) && isSegment n
    && match (s.segment n).lastArrival with
      | some t => decide (s.settings.silenceLimit ≤ s.age t)
      | none => false

/-- Segment `n` may start a transmission: transmitter free, line idle, something to send (R120). -/
def State.startDue (s : State) (n : Nat) : Bool :=
  let g := s.segment n
  s.running && isSegment n && g.transmitting.isNone && !g.receiving
    && (g.control.isSome || !g.commands.isEmpty || !g.stations.isEmpty)

/-- Zone `z` is OCCUPIED, not frozen, and the expiry of its hold is due (R80, R97). -/
def State.holdDue (s : State) (z : Nat) : Bool :=
  s.running && decide ((s.zone z).occupancy = .occupied) && !(s.zone z).frozen && (s.zone z).expiring

/-- Zone `z` is in GRACE, not frozen, and the expiry of its grace is due (R84, R97). -/
def State.graceDue (s : State) (z : Nat) : Bool :=
  s.running && decide ((s.zone z).occupancy = .grace) && !(s.zone z).frozen && (s.zone z).expiring

/-- Rehearsal runs and the expiry of the shadow hold of zone `z` is due (R98). -/
def State.shadowHoldDue (s : State) (z : Nat) : Bool :=
  s.running && decide (s.staging = .rehearsing) && decide ((s.shadowZone z).occupancy = .occupied)
    && (s.shadowZone z).expiring

/-- Rehearsal runs and the expiry of the shadow grace of zone `z` is due (R98). -/
def State.shadowGraceDue (s : State) (z : Nat) : Bool :=
  s.running && decide (s.staging = .rehearsing) && decide ((s.shadowZone z).occupancy = .grace)
    && (s.shadowZone z).expiring

/-- Some uplink queue holds an entry. -/
def Uplink.holdsEntry (u : Uplink) : Bool :=
  !u.replies.isEmpty || !u.notices.isEmpty || !u.reports.isEmpty || !u.forwards.isEmpty || !u.traces.isEmpty

/-- A trunk start is due: transmitter free, trunk up, an entry waits (R126). -/
def State.trunkStartDue (s : State) : Bool :=
  s.running && s.trunkTransmitting.isNone && decide (s.link = .up) && s.uplink.holdsEntry

/-- The sweep timer runs and has reached the interval in force (R165). -/
def State.sweepDue (s : State) : Bool :=
  s.running && !s.loading && decide (s.settings.supervisionInterval ≤ s.sweep.elapsed)

/-- The walk visits zone `z`: present in the staged table and not pinned in the active bank (R149). -/
def State.walks (s : State) (z : Nat) : Bool := (s.stagedRecord z).present && !pinned s.active.windows z

/-- The first step of a walk may begin: no translation is in progress (R149). -/
def State.walkDue (s : State) : Bool :=
  s.running && decide (s.staging = .cutting) && decide (s.walk.phase = .waiting) && s.engine.current.isNone
    && (nextZone s.walks 0).isSome

/-- The walk has ended, "or at once when there is no zone to visit", no translation is in progress, and no sweep is in progress,
so the completion follows (R149, R168). -/
def State.completionDue (s : State) : Bool :=
  s.running && decide (s.staging = .cutting) && s.engine.current.isNone && decide (s.sweep.phase = .idle)
    && (decide (s.walk.phase = .finished) || (decide (s.walk.phase = .waiting) && (nextZone s.walks 0).isNone))

end Sys2Proof.Machine
end

