-- ==== Sys2Proof/Machine/Ops.lean ====
section
/-! DEFINITION. The operations that the meanings of the commands share, each named after what the manual calls it. -/

namespace Sys2Proof.Machine

/-! ## The Notice Unit (R170, R172) and the uplink queues (R123 to R127) -/

/-- A notice record joins the notice queue, or replaces the waiting record of its condition in place (R125). -/
def joinNotices (q : List NoticeRecord) (r : NoticeRecord) : List NoticeRecord :=
  if q.any fun x => x.condition == r.condition then q.map fun x => if x.condition = r.condition then r else x
  else q ++ [r]

/-- A Notice Unit record after a report of its condition (R170). -/
def NoticeState.reported (n : NoticeState) (scope : Option Nat) : NoticeState :=
  if n.pending then { n with counter := advanceCount n.counter }
  else { pending := true, occurrence := true, counter := advanceCount n.counter, firstScope := scope }

/-- A block reports condition `c` with a scope (R170). -/
def report (c : Condition) (scope : Option Nat) (s : State) : State :=
  { s with
    notices := put s.notices (c.code + 1) ((s.notice c).reported scope)
    uplink :=
      if (s.notice c).pending = false ∧ s.enabled c = true ∧ s.link = .up then
        { s.uplink with
          notices :=
            joinNotices s.uplink.notices
              { condition := c, scope := scope, counter := advanceCount (s.notice c).counter } }
      else s.uplink }

/-- Two conditions of one event that R170 does not order are reported, in the order a free value gives (log entry 7). -/
def reportUnordered (c₁ c₂ : Condition) (scope : Option Nat) (s : State) : State :=
  let t := { s with freeCount := s.freeCount + 1 }
  if Config.firstTaken s.freeCount then report c₂ scope (report c₁ scope t) else report c₁ scope (report c₂ scope t)

/-- A reply is offered to the reply queue; "replies offered are discarded" while the trunk is down (R123, R127). -/
def offerReply (r : Reply) (s : State) : State :=
  { s with uplink := if s.link = .up then { s.uplink with replies := s.uplink.replies ++ [r] } else s.uplink }

/-- A FIELD_UP copy is offered to the forward queue (R123, R127): 128 places; dropped and counted when full or down. -/
def offerForward (u : FieldUp) (s : State) : State :=
  { s with
    uplink :=
      if s.link = .up ∧ s.uplink.forwards.length < 128 then { s.uplink with forwards := s.uplink.forwards ++ [u] }
      else { s.uplink with forwardDiscards := advanceCount s.uplink.forwardDiscards } }

/-- A TRACE is offered to the trace queue (R123, R127): 64 places; dropped and counted when full or down. -/
def offerTrace (t : Trace) (s : State) : State :=
  { s with
    uplink :=
      if s.link = .up ∧ s.uplink.traces.length < 64 then { s.uplink with traces := s.uplink.traces ++ [t] }
      else { s.uplink with traceDiscards := advanceCount s.uplink.traceDiscards } }

/-- The report of zone `z` formed now (R113). -/
def formReport (s : State) (z : Nat) : ZoneReport :=
  { zone := z, generation := s.generation, sweep := s.sweep.number, occupancy := (s.zone z).occupancy,
    level := (s.zone z).level, status := (s.zone z).status, temperature := (s.zone z).temperature,
    count := (s.zone z).count, spread := (s.zone z).spread, spreadAlarm := (s.zone z).spreadAlarm (s.record z),
    setpoint := (s.zone z).setpoint (s.record z), offset := (s.zone z).offset, damper := (s.zone z).damper,
    outputIncomplete := (s.zone z).outputIncomplete }

/-- The report queue with a report joined at the tail, or in place of the waiting report of its zone (R124). -/
def joinReports (q : List ZoneReport) (r : ZoneReport) : List ZoneReport :=
  if q.any fun x => x.zone == r.zone then q.map fun x => if x.zone = r.zone then r else x else q ++ [r]

/-- A report of zone `z` formed now joins the report queue and sets the zone's report-pending flag (R114, R124). -/
def queueReport (z : Nat) (s : State) : State :=
  { s with
    uplink := { s.uplink with reports := joinReports s.uplink.reports (formReport s z) }
    zones := put s.zones z { s.zone z with reportPending := true } }

/-- A report of zone `z` waits in the report queue. -/
def State.reportWaits (s : State) (z : Nat) : Bool := s.uplink.reports.any fun x => x.zone == z

/-- A sweep's report of zone `z`: a replacement reports REPORT_OVERRUN with the zone as scope (R169). -/
def sweepReport (z : Nat) (s : State) : State :=
  if s.reportWaits z then report .reportOverrun (some z) (queueReport z s) else queueReport z s

/-! ## Commands and issues (section 4.3, section 7.1) -/

/-- A command offered to a command queue (R117): coalesced, appended, or `none` when the full queue drops it. -/
def acceptCommand (q : List CommandEntry) (c : CommandEntry) : Option (List CommandEntry) :=
  if q.any fun x => x.destination == c.destination && x.kind == c.kind then
    some (q.map fun x => if x.destination = c.destination ∧ x.kind = c.kind then c else x)
  else if q.length < 96 then some (q ++ [c])
  else none

/-- A command is offered to the command queue of segment `n`; a drop reports COMMAND_OVERFLOW and marks the originating zone
output-incomplete (R71, R117). -/
def offerCommand (n : Nat) (c : CommandEntry) (s : State) : State :=
  match acceptCommand (s.segment n).commands c with
  | some q => s.setSegment n { s.segment n with commands := q }
  | none =>
    let t := report .commandOverflow (some n) s
    t.setZone c.zone { t.zone c.zone with outputIncomplete := true }

/-- Commands are offered one by one, each to the segment beside it (R71). -/
def offerCommands (cs : List (Nat × CommandEntry)) (s : State) : State :=
  cs.foldl (fun t c => offerCommand c.1 c.2 t) s

/-- The LEVEL commands of a level issue for zone `z`, with their segments, in list order (R65, R66). -/
def levelCommands (windows : List Window) (z level fade : Nat) : List (Nat × CommandEntry) :=
  (membersOfRole windows z .luminaire).map fun m =>
    (m.1.segment,
      { destination := m.2, kind := .level, value := fixtureLevel level m.1.trim, fade := fade, zone := z })

/-- The DAMPER commands of a damper issue for zone `z`, with their segments, in list order (R65, R68). -/
def damperCommands (windows : List Window) (z position : Nat) : List (Nat × CommandEntry) :=
  (membersOfRole windows z .damper).map fun m =>
    (m.1.segment, { destination := m.2, kind := .damper, value := position, fade := 0, zone := z })

/-- A level issue for zone `z` (R65). -/
def levelIssue (z fade : Nat) (s : State) : State :=
  offerCommands (levelCommands s.active.windows z (s.zone z).level fade) s

/-- A damper issue for zone `z`; "made only when the zone's last damper position is known" (R68). -/
def damperIssue (z : Nat) (s : State) : State :=
  match (s.zone z).damper with
  | some p => offerCommands (damperCommands s.active.windows z p) s
  | none => s

/-- A shadow command raises the trace prescale count and may offer a TRACE (R141, R142). -/
def shadowCommand (source : Nat) (c : CommandEntry) (s : State) : State :=
  if s.settings.tracePrescale ≤ s.engine.traceCount + 1 then
    offerTrace
      { stagedZone := c.zone, destination := c.destination, kind := c.kind, value := c.value, sourceZone := source }
      { s with engine := { s.engine with traceCount := 0 } }
  else { s with engine := { s.engine with traceCount := s.engine.traceCount + 1 } }

/-- A shadow level issue for zone `z` (R73, R141). -/
def shadowIssue (source z : Nat) (s : State) : State :=
  (levelCommands s.staged.windows z (s.shadowZone z).level (s.stagedRecord z).normalFade).foldl
    (fun t c => shadowCommand source c.2 t) s

/-! ## Events at a zone (R79) -/

/-- A level issue for zone `z` with its normal fade code (R69). -/
def normalIssue (z : Nat) (s : State) : State := levelIssue z (s.record z).normalFade s

/-- The report on change of a transition, when the zone's record has it set (R94). -/
def reportOnChange (before : Occupancy) (z : Nat) (s : State) : State :=
  if (s.zone z).occupancy ≠ before ∧ (s.record z).reportOnChange = true then queueReport z s else s

/-- An event of the occupancy machine at zone `z`, which leaves its record as `after`: the change of state, then a level issue
when L changed, then a report on change (R79). -/
def zoneEvent (z : Nat) (after : ZoneState) (s : State) : State :=
  let t := s.setZone z after
  reportOnChange (s.zone z).occupancy z (if after.level ≠ (s.zone z).level then normalIssue z t else t)

/-- A zone action at zone `z`: as an event of the machine, with its level issue made "always" (R70, R75, R76). -/
def zoneAction (z : Nat) (after : ZoneState) (s : State) : State :=
  reportOnChange (s.zone z).occupancy z (normalIssue z (s.setZone z after))

/-- An event of the shadow machine at zone `z` (R98): no report, and shadow commands in place of commands. -/
def shadowEvent (source z : Nat) (after : ZoneState) (s : State) : State :=
  let t := s.setShadow z after
  if after.level ≠ (s.shadowZone z).level then shadowIssue source z t else t

/-! ## The sweep (R166, R168) -/

/-- The phase of a sweep once part 5 has dealt with the zones up to `after`: "the sweep ends when the last refresh has been
made". -/
def settleRefresh (s : State) (after : Nat) : SweepPhase :=
  if (nextZone s.needsRefresh after).isSome then .refresh after else .idle

/-- The phase once part 4 has dealt with the staged zones up to `after`; part 4 is made "while the staging state is
REHEARSING". -/
def settleShadow (s : State) (after : Nat) : SweepPhase :=
  if s.staging = .rehearsing ∧ (nextZone (fun z => (s.stagedRecord z).present) after).isSome = true then .shadow after
  else settleRefresh s 0

/-- The phase once part 3 has dealt with the zones up to `after`. -/
def settleTemperatures (s : State) (after : Nat) : SweepPhase :=
  if (nextZone (fun z => (s.record z).present) after).isSome then .temperatures after else settleShadow s 0

/-- The phase with every part passed over that has nothing left to do. -/
def settledPhase (s : State) : SweepPhase → SweepPhase
  | .idle => .idle
  | .starting => .starting
  | .presence => .presence
  | .temperatures after => settleTemperatures s after
  | .shadow after => settleShadow s after
  | .refresh after => settleRefresh s after

/-- A sweep due while CUTTING is deferred; a further one is absorbed and reports REPORT_OVERRUN (R168). -/
def deferSweep (s : State) : State :=
  if s.sweep.deferred then report .reportOverrun none s else { s with sweep := { s.sweep with deferred := true } }

/-- The sweep timer expires: it starts again from 0, and the expiry is deferred or absorbed while CUTTING, waits for, or is absorbed
behind, a sweep in progress, and starts a sweep otherwise (R165, R166, R168). It is absorbed also when the sweep that waits is a released
deferred one, which the manual does not decide (DESIGN CHOICE, log entry 33). -/
def expireSweepTimer (s : State) : State :=
  let t := { s with sweep := { s.sweep with elapsed := 0 } }
  if s.staging = .cutting then deferSweep t
  else if s.sweep.phase = .idle then { t with sweep := { t.sweep with phase := .starting } }
  else if s.sweep.waiting = 0 then { t with sweep := { t.sweep with waiting := 1 } }
  else report .reportOverrun none t

/-- The end of a sweep: a sweep that waits falls due, and is deferred while CUTTING (R166, R168). While CUTTING one sweep alone is
deferred so, also when it is a released deferred one whose turn comes in a second walk, and a second one goes on waiting (DESIGN CHOICE,
log entry 34). -/
def endSweep (s : State) : State :=
  if s.sweep.waiting = 0 then { s with sweep := { s.sweep with phase := .idle } }
  else if s.staging = .cutting then
    deferSweep { s with sweep := { s.sweep with phase := .idle, waiting := s.sweep.waiting - 1 } }
  else { s with sweep := { s.sweep with phase := .starting, waiting := s.sweep.waiting - 1 } }

/-- The sweep in progress put at `phase`, with parts that have nothing left to do passed over, and ended after the last. -/
def sweepTo (phase : SweepPhase) (s : State) : State :=
  if settledPhase s phase = .idle then endSweep s
  else { s with sweep := { s.sweep with phase := settledPhase s phase } }

/-- The sweep in progress, if any, settled after a change of what it has left to do. -/
def settleSweep (s : State) : State := if s.sweep.phase = .idle then s else sweepTo s.sweep.phase s

/-- The release of a deferred sweep: it runs, or "starts when that sweep ends" when one is in progress (R168). -/
def releaseSweep (s : State) : State :=
  if s.sweep.deferred then
    if s.sweep.phase = .idle then { s with sweep := { s.sweep with deferred := false, phase := .starting } }
    else { s with sweep := { s.sweep with deferred := false, waiting := s.sweep.waiting + 1 } }
  else s

/-! ## Staging (chapter 8) -/

/-- The staging state becomes `next`; when rehearsal ran it ends first: the shadow table returns to idle, a translation in
progress keeps no staged run, and the sweep passes over part 4 (R140, R143, R166). -/
def leaveTo (next : StagingState) (s : State) : State :=
  if s.staging = .rehearsing then
    settleSweep
      { s with
        staging := next
        shadow := Vector.replicate 255 .idle
        engine := { s.engine with current := s.engine.current.map fun t => { t with rehearsed := false } } }
  else { s with staging := next }

/-- The withdrawal of a validation that relied on MAINT (R136). -/
def withdraw (s : State) : State :=
  let t := leaveTo .editing s
  report .stageRejected none
    { t with result := { outcome := .failed, check := some .pinConflict, index := s.result.index, reliance := false } }

/-! ## The down path (section 3.6) and the hold queue (R148) -/

/-- An UNDELIVERABLE frame (R53). -/
def undeliverable (f : FieldFrame) (s : State) : State := report .undeliverable (some f.destination.toNat) s

/-- The segment a FIELD_DOWN frame is delivered to by Table 3-8; `none` when it is refused (R52). -/
def route (s : State) (d : FieldDown) : Option Nat :=
  let a := d.frame.destination.toNat
  if (d.frame.kind ≠ 1 ∧ d.frame.kind ≠ 2 ∧ d.frame.kind ≠ 3) ∨ 4 < d.selector then none
  else if a = 4095 then if d.selector = 0 then none else some d.selector
  else if isFieldAddress a = false then none
  else
    match lookup s.active.windows a with
    | some w => if w.station then some (if d.selector = 0 then w.segment else d.selector) else none
    | none => if d.selector = 0 ∨ s.settings.closedFloor = true then none else some d.selector

/-- A FIELD_DOWN frame is delivered: offered to a station queue of at most 32 entries, or UNDELIVERABLE (R52, R53, R118). -/
def deliver (s : State) (d : FieldDown) : State :=
  match route s d with
  | some n =>
    if (s.segment n).stations.length < 32 then
      s.setSegment n { s.segment n with stations := (s.segment n).stations ++ [d.frame] }
    else undeliverable d.frame s
  | none => undeliverable d.frame s

/-- A FIELD_DOWN frame is offered to the trunk hold queue of at most 32 frames (R148). -/
def holdFrame (s : State) (d : FieldDown) : State :=
  if s.walk.held.length < 32 then { s with walk := { s.walk with held := s.walk.held ++ [d] } }
  else undeliverable d.frame s

/-- The trunk hold queue is emptied, its entries delivered in arrival order (R148). -/
def releaseHeld (s : State) : State :=
  s.walk.held.foldl deliver { s with walk := { s.walk with held := [] } }

/-! ## Hold-off (section 1.4) -/

/-- A request of the Segment Port fills or replaces the pending control frame (R119). -/
def Segment.request (g : Segment) (c : ControlFrame) : Segment := { g with control := some c }

/-- The port becomes HELD and requests a HOLD. -/
def Segment.holdOff (g : Segment) : Segment := { g.request .hold with hold := .held }

/-- The port becomes RELEASED and requests a RELEASE. -/
def Segment.letGo (g : Segment) : Segment := { g.request .release with hold := .released }

/-- The hold-off rule at an append that left the occupancy as it now is (R13). -/
def Segment.afterAppend (g : Segment) : Segment :=
  if g.ingress.length = 64 ∧ g.hold = .released then g.holdOff else g

/-- The hold-off rule at a take that left the occupancy as it now is (R13). -/
def Segment.afterTake (g : Segment) (forced : Bool) : Segment :=
  if g.ingress.length = 32 ∧ g.hold = .held ∧ forced = false then g.letGo else g

/-- The hold state is set from the forced-hold setting and the matching control frame is requested (R15). -/
def Segment.matchForced (g : Segment) (forced : Bool) : Segment :=
  if forced = true ∨ 64 ≤ g.ingress.length then g.holdOff else g.letGo

/-- Segment `n` becomes DOWN; "becoming DOWN changes nothing in the port's ingress queue, hold state or counts" (R17). -/
def fallSilent (n : Nat) (s : State) : State :=
  report .segmentDown (some n) (s.setSegment n { s.segment n with line := .down })

/-! ## The Plan Store (R161) -/

/-- A store write starts: the image "begins to be overwritten with the active bank, the plan generation and the stored settings"
(R161). -/
def startWrite (s : State) : State :=
  { s with
    store :=
      { image := Image.partial { bank := s.active, generation := s.generation, settings := s.settings, check := 0 }
        status := .invalid, writing := true } }

/-! ## Cutover (chapter 9) -/

/-- Every frozen flag is cleared (R154, R156). -/
def unfreeze (zones : Vector ZoneState 255) : Vector ZoneState 255 := mapNumbered zones fun _ z => { z with frozen := false }

/-- Steps 1 to 4 of an abort (R154): the walk stops, its computed states are discarded, zones unfreeze, the staging state returns,
with the withdrawal it may make, and CUTOVER_ABORTED is reported. -/
def stopWalk (s : State) : State :=
  let t :=
    { s with
      walk := { Walk.none with held := s.walk.held }
      zones := unfreeze s.zones
      staging := if s.walk.revert then .retained else .validated }
  report .cutoverAborted none
    (if s.walk.revert = false ∧ s.result.reliance = true ∧ s.maint = false then withdraw t else t)

/-- An abort by ABORT_CUTOVER (R154). -/
def abortWalk (s : State) : State :=
  let t := releaseHeld (stopWalk s)
  releaseSweep { t with engine := { t.engine with gateOpen := true } }

/-- The abort a RESTART makes: the held frames are discarded, the gate opens without a take, and a deferred sweep is discarded
(R155). -/
def abortForRestart (s : State) : State :=
  let t := stopWalk s
  { t with
    walk := .none
    engine := { t.engine with gateOpen := true }
    sweep := { t.sweep with deferred := false } }

/-- The plan generation after an advance: "65535 is followed by 1, and 0 is followed by 1" (R156). -/
def nextGeneration (g : Nat) : Nat := if g < 65535 then g + 1 else 1

/-- The computed state of a walked zone, as its step kept it. -/
def Walk.stateOf (w : Walk) (z : Nat) : Option ZoneState := (w.computed.find? fun c => c.1 == z).map Prod.snd

/-- The runtime record installed for zone `z` at completion; `s` is the state before the banks are swapped (R156, step 2). -/
def State.installed (s : State) (z : Nat) : ZoneState :=
  if (s.stagedRecord z).present then
    if pinned s.active.windows z then { (s.zone z).carried (s.stagedRecord z) with frozen := false }
    else
      match s.walk.stateOf z with
      | some c => { c with reportPending := (s.zone z).reportPending, outputIncomplete := false, frozen := false }
      | none => .idle
  else .idle

end Sys2Proof.Machine
end

