-- ==== Sys2Proof/Machine/Requests.lean ====
section
/-! DEFINITION. The Management Unit's taking and answering of requests (section 11.3), and the requests that read the device
(section 11.4). -/

namespace Sys2Proof.Machine

/-- What the decision of a request leaves: the state, the result code and the reply data. -/
structure Verdict where
  state : State
  result : Result
  data : List Byte
  deriving DecidableEq, Repr

/-- A refusal: "a refused request changes no state" (R178). -/
def refuse (r : Result) (s : State) : Verdict := { state := s, result := r, data := [] }

/-- An acceptance without reply data, CLAMPED when an argument was corrected. -/
def accept (clamped : Bool) (s : State) : Verdict := { state := s, result := if clamped then .clamped else .ok, data := [] }

/-- The names of requests by their codes: 1 to 23 (Table 11-6). -/
def knownCode (c : Nat) : Bool := decide (1 ≤ c) && decide (c ≤ 23)

/-- The request in the slot that the Management Unit may take: the reply queue, of 8 places, has a free one (R123, R178). -/
def State.takeable (s : State) : Option Request :=
  if s.running ∧ s.uplink.replies.length < 8 then s.slot else none

/-- The reply to a request (R178, R184). -/
def replyTo (r : Request) (code : Byte) (v : Verdict) : State :=
  offerReply { tag := r.tag, body := code :: byte v.result.code :: v.data } v.state

/-- The tests of R178 that come before a request's own: body length, broadcast, store load in progress. -/
def screenRequest (r : Request) (anyDestination duringLoad : Bool) (s : State) : Option Result :=
  if lengthOk r.body = false then some .refused
  else if r.broadcast = true ∧ anyDestination = false then some .refused
  else if s.loading = true ∧ duringLoad = false then some .busy
  else none

/-- The Management Unit takes the request of this code from the slot, screens it, decides it by its own tests and queues its one
reply (R178). With no such request to take nothing happens (log entry 1). -/
def manage (code : Nat) (anyDestination duringLoad : Bool) (decision : List Byte → State → Verdict) (s : State) :
    Host.Outcome State Fault Refusal :=
  .next
    (match s.takeable with
      | some r =>
        if requestCode r.body = some code then
          let t := { s with slot := none }
          replyTo r (byte code)
            (match screenRequest r anyDestination duringLoad t with
              | some refusal => refuse refusal t
              | none => decision r.body.tail t)
        else s
      | none => s)

/-- UNKNOWN_REQUEST_NAME: a request whose name is unknown is taken and answered REFUSED (R178). The code of an empty body is a free
value (log entry 6). -/
def execUnknownRequestName (s : State) : Host.Outcome State Fault Refusal :=
  .next
    (match s.takeable with
      | some r =>
        let t := { s with slot := none }
        match r.body.head? with
        | some c => if knownCode c.toNat then s else replyTo r c (refuse .refused t)
        | none =>
          replyTo r (Config.codeOfEmptyRequest s.freeCount) (refuse .refused { t with freeCount := s.freeCount + 1 })
      | none => s)

/-! ## IDENTIFY (R179) -/

/-- The IDENTIFY reply data: vendor code, part code, design revision, unique number and trunk address. -/
def identity (s : State) : List Byte :=
  twoBytes 0x4E53 ++ twoBytes 0x4512 ++ [1]
    ++ [5, 4, 3, 2, 1, 0].map (fun i => Config.uniqueNumber.extractLsb' (8 * i) 8) ++ [s.trunkAddress]

/-- IDENTIFY (R179). -/
def execIdentify (s : State) : Host.Outcome State Fault Refusal :=
  manage 1 true true (fun _ t => { state := t, result := .ok, data := identity t }) s

/-! ## READ_STATUS (R180, R184) -/

/-- The status of one segment. -/
def segmentStatus (s : State) (n : Nat) : List Byte :=
  let g := s.segment n
  [byte g.line.code, byte g.hold.code, flagByte (s.forcedHold n), byte g.ingress.length, byte g.commands.length,
      byte g.stations.length]
    ++ twoBytes g.received ++ twoBytes g.malformed ++ twoBytes g.overflow

/-- The READ_STATUS reply data in the order of R184. -/
def statusData (s : State) : List Byte :=
  [byte s.staging.code, byte s.result.outcome.code, byte (checkCode s.result.check)]
    ++ twoBytes (s.result.index.getD 0) ++ [flagByte s.result.reliance, byte s.walk.cursor]
    ++ twoBytes s.generation ++ twoBytes s.sweep.number ++ fourBytes s.deviceTime.toNat
    ++ [flagByte s.maint, flagByte s.settings.closedFloor] ++ segmentNumbers.flatMap (segmentStatus s)
    ++ [byte s.walk.held.length, byte s.link.code] ++ twoBytes s.uplink.forwardDiscards
    ++ twoBytes s.uplink.traceDiscards ++ [flagByte s.writing, byte s.store.status.code, flagByte s.loading]

/-- READ_STATUS (R180). -/
def execReadStatus (s : State) : Host.Outcome State Fault Refusal :=
  manage 2 true true (fun _ t => { state := t, result := .ok, data := statusData t }) s

/-! ## READ_TABLE (R181) -/

/-- The first index of a table, and the index after its last (R181); none for a code that names no table. -/
def tableRange (s : State) : Nat → Option (Nat × Nat)
  | 0 => some (0, s.active.windows.length)
  | 1 => some (0, s.staged.windows.length)
  | 2 => some (1, 256)
  | 3 => some (1, 256)
  | 4 => some (1, 256)
  | 5 => some (1, 256)
  | 6 => some (0, 32)
  | 7 => some (0, 32)
  | 8 => some (0, s.cache.length)
  | 9 => some (0, s.presence.length)
  | 10 => some (0, 21)
  | _ => none

/-- The record of a table at an index within its range (R181, R184). -/
def tableRecord (s : State) (table i : Nat) : List Byte :=
  match table with
  | 0 => ((s.active.windows[i]?).map Window.bytes).getD []
  | 1 => ((s.staged.windows[i]?).map Window.bytes).getD []
  | 2 => (s.record i).bytes
  | 3 => (s.stagedRecord i).bytes
  | 4 => (s.zone i).bytes ((s.zone i).spreadAlarm (s.record i)) ((s.zone i).setpoint (s.record i))
  | 5 =>
    (s.shadowZone i).bytes ((s.shadowZone i).spreadAlarm (s.stagedRecord i))
      ((s.shadowZone i).setpoint (s.stagedRecord i))
  | 6 => (nth s.active.classifier .cleared (i + 1)).bytes
  | 7 => (nth s.staged.classifier .cleared (i + 1)).bytes
  | 8 => ((s.cache[i]?).map CacheEntry.bytes).getD []
  | 9 => ((s.presence[i]?).map PresenceEntry.bytes).getD []
  | _ => ((allConditions[i]?).map fun c => (s.notice c).bytes c (s.enabled c)).getD []

/-- How many records of `size` bytes a reply returns: "the count asked, the end of the table, or the last whole record that fits in
a 240-byte body, whichever comes first"; six bytes of the body come before the records (R181, R184). -/
def recordsReturned (asked left size : Nat) : Nat := min asked (min left (234 / size))

/-- The decision of a READ_TABLE with its arguments (R181). -/
def readTable (table start count : Nat) (s : State) : Verdict :=
  if count = 0 ∨ 16 < count then refuse .refused s
  else
    match tableRange s table, recordSize table with
    | some (first, stop), some size =>
      if start < first ∨ stop ≤ start then refuse .badIndex s
      else
        let n := recordsReturned count (stop - start) size
        { state := s, result := .ok
          data := [byte table] ++ twoBytes start ++ [byte n] ++ (List.range' start n).flatMap (tableRecord s table) }
    | _, _ => refuse .badTable s

/-- READ_TABLE (R181). -/
def execReadTable (s : State) : Host.Outcome State Fault Refusal :=
  manage 3 false false
    (fun args t =>
      match args with
      | [table, i1, i0, count] => readTable table.toNat (number i1 i0) count.toNat t
      | _ => refuse .refused t)
    s

end Sys2Proof.Machine
end

