-- ==== Sys2Proof/Machine/Cutover.lean ====
section
/-! DEFINITION. Cutover (chapter 9): acceptance, the walk, completion and abort. -/

namespace Sys2Proof.Machine

/-- The frozen set's flags are set: every zone present in the active table that is not pinned (R147). -/
def freeze (s : State) : Vector ZoneState 255 :=
  mapNumbered s.zones fun z st =>
    if (s.record z).present && !pinned s.active.windows z then { st with frozen := true } else st

/-- The effects of an accepted CUTOVER (R147): rehearsal ends, the state becomes CUTTING, the gate closes, the frozen set is formed,
the hold queue is empty and takes frames, and the walk is started. -/
def acceptCutover (revert : Bool) (s : State) : State :=
  let t := leaveTo .cutting s
  settleSweep
    { t with
      engine := { t.engine with gateOpen := false }
      zones := freeze t
      walk := { phase := .waiting, cursor := 0, revert := revert, computed := [], held := [] } }

/-- The validation result a revert is accepted with (R146). -/
def revertResult (failure : Option Nat) : ValidationResult :=
  { outcome := .passed, check := none, index := failure, reliance := failure.isSome }

/-- The decision of a CUTOVER (R146). -/
def cutover (s : State) : Verdict :=
  if s.staging = .cutting then refuse .busy s
  else if s.staging = .empty ∨ s.staging = .editing then refuse .badState s
  else if s.writing then refuse .busy s
  else if s.staging = .retained then
    match pinTest s.active s.staged with
    | some z =>
      if s.maint then accept false (acceptCutover true { s with result := revertResult (some z) })
      else { state := s, result := .invalid, data := [byte Check.pinConflict.code] ++ twoBytes z }
    | none => accept false (acceptCutover true { s with result := revertResult none })
  else accept false (acceptCutover false s)

/-- CUTOVER (R146, R147). -/
def execCutover (s : State) : Host.Outcome State Fault Refusal := manage 13 false false (fun _ t => cutover t) s

/-- WALK_BEGIN: the first step begins (R149). -/
def execWalkBegin (s : State) : Host.Outcome State Fault Refusal :=
  .next
    (if s.walkDue then
      { s with walk := { s.walk with phase := .stepping, cursor := (nextZone s.walks 0).getD 0 } }
    else s)

/-- The completion of the step at the cursor: the computed state is kept aside, and the next step begins (R149 to R152). -/
def completeStep (s : State) : State :=
  let computed := (s.walk.cursor, s.computedState s.walk.cursor) :: s.walk.computed
  match nextZone s.walks s.walk.cursor with
  | some z => { s with walk := { s.walk with cursor := z, computed := computed } }
  | none => { s with walk := { s.walk with phase := .finished, computed := computed } }

/-- WALK_STEP_COMPLETION (R149 to R152). -/
def execWalkStepCompletion (s : State) : Host.Outcome State Fault Refusal :=
  .next
    (if s.running && decide (s.staging = .cutting) && decide (s.walk.phase = .stepping) then completeStep s else s)

/-- The pinned zones whose carried L the new record's min-on level raises (R156, step 2). Their level issues are made in ascending zone
number, an order the manual does not give (DESIGN CHOICE, log entry 32); it shows in which commands a full queue drops. -/
def raisedZones (s : State) : List Nat :=
  zoneNumbers.filter fun z =>
    (s.stagedRecord z).present && pinned s.active.windows z && (s.installed z).level != (s.zone z).level

/-- Steps 1 and 2 of R156: the banks swap, every runtime record is installed, and raised levels are issued. -/
def swapAndInstall (s : State) : State :=
  (raisedZones s).foldl (fun t z => normalIssue z t)
    { s with
      active := s.staged
      staged := s.active
      staging := .retained
      zones := mapNumbered s.zones fun z _ => s.installed z }

/-- Step 4 of R156: waiting reports of zones not present in the new table are discarded, and their flags cleared (R124). -/
def dropReports (s : State) : State :=
  { s with
    uplink := { s.uplink with reports := s.uplink.reports.filter fun r => (s.record r.zone).present }
    zones := mapNumbered s.zones fun z st => if (s.record z).present then st else { st with reportPending := false } }

/-- Steps 3 to 8 of R156, and the cursor back to 0. -/
def settlePlan (s : State) : State :=
  let t := dropReports { s with generation := nextGeneration s.generation }
  let u :=
    report .cutoverDone none
      { t with
        cache := removeMoved t.active.windows t.cache
        presence := presenceTable t.active.windows t.presence }
  { u with result := .cleared, walk := { Walk.none with held := s.walk.held } }

/-- The re-issue of a walked zone (R157, step 1). -/
def reissueZone (z : Nat) (s : State) : State := damperIssue z (levelIssue z (s.record z).rezoneFade s)

/-- The completion of a cutover (R156, R157). -/
def completeCutover (s : State) : State :=
  let walked := zoneNumbers.filter s.walks
  let t := walked.foldl (fun u z => reissueZone z u) (settlePlan (swapAndInstall s))
  let u := releaseHeld (startWrite t)
  releaseSweep { u with engine := { u.engine with gateOpen := true } }

/-- CUTOVER_COMPLETION (R156, R157). -/
def execCutoverCompletion (s : State) : Host.Outcome State Fault Refusal :=
  .next (if s.completionDue then completeCutover s else s)

/-- ABORT_CUTOVER (R154). -/
def execAbortCutover (s : State) : Host.Outcome State Fault Refusal :=
  manage 14 false false
    (fun _ t => if t.staging = .cutting then accept false (abortWalk t) else refuse .badState t) s

end Sys2Proof.Machine
end

