-- ==== Sys2Proof/Machine/Resets.lean ====
section
/-! DEFINITION. Cold reset, the end of the store load, and the warm restart. -/

namespace Sys2Proof.Machine

/-- COLD_RESET: RESETN is low; all volatile state is lost (R19 and the reset rules of each block). The store image, the MAINT input and
the trunk address stay, and so do the MODEL's fields. -/
def coldReset (s : State) : State :=
  { State.reset with
    resetLow := true
    loading := false
    maint := s.maint
    trunkAddress := s.trunkAddress
    store := { image := s.store.image, status := .invalid, writing := false }
    pending := s.pending
    freeCount := s.freeCount }

/-- COLD_RESET (R19, R155, R161, R162). -/
def execColdReset (s : State) : Host.Outcome State Fault Refusal := .next (coldReset s)

/-- COLD_RESET_END: device time starts from 0, the straps are read and the store load begins (R7, R162, R176). -/
def execColdResetEnd (straps : BitVec 8) (s : State) : Host.Outcome State Fault Refusal :=
  .next
    (if s.resetLow then
      { s with resetLow := false, deviceTime := 0, trunkAddress := strappedAddress straps, loading := true }
    else s)

/-- Every runtime record is set as R62 gives: a present zone lit, the others idle. -/
def lightZones (s : State) : Vector ZoneState 255 :=
  mapNumbered s.zones fun z _ => if (s.record z).present then (s.record z).litState else .idle

/-- The level issue of R62 for every present zone, in ascending zone number. -/
def issuePresent (s : State) : State :=
  (zoneNumbers.filter fun z => (s.record z).present).foldl (fun t z => normalIssue z t) s

/-- What the load takes from a valid image, or the empty plan and the defaults, with STORE_INVALID (R162). -/
def loadImage (s : State) : State :=
  let i := s.store.image
  if i.agrees then
    { s with
      loading := false, active := i.bank, generation := i.generation, settings := i.settings
      store := { s.store with status := .valid } }
  else
    report .storeInvalid none
      { s with
        loading := false, active := .empty, generation := 0, settings := .default
        store := { s.store with status := .invalid } }

/-- The load ends, and the blocks that depend on it take their states after the load (R15, R62, R96, R162, R163, R165). -/
def completeLoad (s : State) : State :=
  let t := loadImage s
  issuePresent
    { t with
      segments := mapNumbered t.segments fun n g => g.matchForced (t.forcedHold n)
      zones := lightZones t
      presence := presenceTable t.active.windows []
      sweep := { t.sweep with elapsed := 0 } }

/-- LOAD_COMPLETION (R162). -/
def execLoadCompletion (s : State) : Host.Outcome State Fault Refusal :=
  .next (if s.running && s.loading then completeLoad s else s)

/-- A segment at a warm restart (R20, R116, R118, R119, R121): queues and counts emptied, the hold state matched to forced hold; a
reception and a transmission in progress go on (R4, R122). -/
def Segment.restarted (g : Segment) (forced : Bool) : Segment :=
  ({ Segment.afterReset with receiving := g.receiving, transmitting := g.transmitting, hold := g.hold } : Segment).matchForced
    forced

/-- Every block takes its warm-restart state, in the order of R183 step 3. -/
def restartBlocks (s : State) : State :=
  let t :=
    issuePresent
      { s with
        segments := mapNumbered s.segments fun n g => g.restarted (s.forcedHold n)
        engine := { s.engine with pointer := 1, current := none, traceCount := 0 }
        zones := lightZones s }
  { t with
    cache := []
    staging := if t.staging = .rehearsing then .validated else t.staging
    shadow := Vector.replicate 255 .idle
    presence := presenceTable t.active.windows []
    sweep := { elapsed := 0, number := t.sweep.number, phase := .idle, waiting := 0, deferred := false }
    slot := none
    notices := mapNumbered t.notices fun _ n => { n with pending := false } }

/-- A warm restart (R183): a walk in progress is aborted, the uplink queues are emptied, the reply is queued, and each block takes its
warm-restart state. -/
def warmRestart (r : Request) (s : State) : State :=
  let t := if s.staging = .cutting then abortForRestart s else s
  restartBlocks (replyTo r (byte 23) (accept false { t with uplink := .empty }))

/-- RESTART (R183); its tests are those of `manage`, but its reply is queued after the uplink is emptied (R128). -/
def execRestart (s : State) : Host.Outcome State Fault Refusal :=
  .next
    (match s.takeable with
      | some r =>
        if requestCode r.body = some 23 then
          let t := { s with slot := none }
          match screenRequest r false false t with
          | some refusal => replyTo r (byte 23) (refuse refusal t)
          | none => if t.writing then replyTo r (byte 23) (refuse .busy t) else warmRestart r t
        else s
      | none => s)

end Sys2Proof.Machine
end

