-- ==== Sys2Proof/Machine/Segments.lean ====
section
/-! DEFINITION. The Segment Ports and Egress Arbiters (chapters 1 and 7): reception, arrival, silence, transmission. A command
whose event is not due changes nothing (log entry 1). -/

namespace Sys2Proof.Machine

/-- The record is offered to the ingress queue of segment `n`: appended while it holds fewer than 128 records, with the hold-off
rule; dropped, counted and reported otherwise (R6 step 4, R9, R13). -/
def offerRecord (n : Nat) (r : IngressRecord) (s : State) : State :=
  let g := s.segment n
  if g.ingress.length < 128 then s.setSegment n ({ g with ingress := g.ingress ++ [r] } : Segment).afterAppend
  else report .ingressOverflow (some n) (s.setSegment n { g with overflow := advanceCount g.overflow })

/-- The arrival of a valid frame on segment `n` (R6, R16). -/
def arrive (n : Nat) (f : FieldFrame) (s : State) : State :=
  let g := s.segment n
  let t :=
    s.setSegment n { g with received := advanceCount g.received, lastArrival := some s.deviceTime, line := .up }
  offerRecord n { frame := f, segment := n, second := s.deviceTime }
    (if g.line = .down then report .segmentUp (some n) t else t)

/-- A malformed frame on segment `n` is discarded, counted and reported (R5). -/
def discardMalformed (n : Nat) (s : State) : State :=
  report .malformedFrame (some n)
    (s.setSegment n { s.segment n with malformed := advanceCount (s.segment n).malformed })

/-- RECEPTION_START (R4). -/
def execReceptionStart (n : Nat) (s : State) : Host.Outcome State Fault Refusal :=
  .next (if s.receptionDue n then s.setSegment n { s.segment n with receiving := true } else s)

/-- RECEPTION_COMPLETION (R4 to R6, R9, R13, R16). -/
def execReceptionCompletion (n : Nat) (bytes : List Byte) (s : State) : Host.Outcome State Fault Refusal :=
  .next
    (if s.running && isSegment n && (s.segment n).receiving then
      let t := s.setSegment n { s.segment n with receiving := false }
      match receiveFrame bytes with
      | some f => arrive n f t
      | none => discardMalformed n t
    else s)

/-- SEGMENT_SILENCE_EXPIRY (R17). -/
def execSegmentSilenceExpiry (n : Nat) (s : State) : Host.Outcome State Fault Refusal :=
  .next (if s.silenceDue n then fallSilent n s else s)

/-- The start of the head of the command queue: it leaves the queue, and the burst count advances while the station queue holds
entries (R120, R121). -/
def Segment.startCommand (g : Segment) (c : CommandEntry) (rest : List CommandEntry) : Segment :=
  { g with
    commands := rest
    burst := if g.stations.isEmpty then 0 else g.burst + 1
    transmitting := some c.frame.wire }

/-- The start of the head of the station queue: it leaves the queue, and the burst count becomes 0 (R120, R121). -/
def Segment.startStation (g : Segment) (f : FieldFrame) (rest : List FieldFrame) : Segment :=
  { g with stations := rest, burst := 0, transmitting := some f.wire }

/-- The choice of the Egress Arbiter under a burst allowance, and the start of what it chose (R120). -/
def Segment.startNext (g : Segment) (allowance : Nat) : Segment :=
  match g.control with
  | some c => { g with control := none, transmitting := some c.frame.wire }
  | none =>
    match g.commands, g.stations with
    | [], [] => g
    | c :: cs, [] => g.startCommand c cs
    | [], f :: fs => g.startStation f fs
    | c :: cs, f :: fs => if allowance ≤ g.burst then g.startStation f fs else g.startCommand c cs

/-- TRANSMISSION_START (R120, R121). -/
def execTransmissionStart (n : Nat) (s : State) : Host.Outcome State Fault Refusal :=
  .next (if s.startDue n then s.setSegment n ((s.segment n).startNext s.settings.burstAllowance) else s)

/-- TRANSMIT_COMPLETION (R122). -/
def execTransmitCompletion (n : Nat) (s : State) : Host.Outcome State Fault Refusal :=
  .next (if s.running && isSegment n then s.setSegment n { s.segment n with transmitting := none } else s)

end Sys2Proof.Machine
end

