-- ==== Sys2Proof/Machine/Settings.lean ====
section
/-! DEFINITION. The stored settings (R182, R49), the flush of readings (R104), the clearing of notices (R173), and the end of a store
write (R161). -/

namespace Sys2Proof.Machine

/-- A change of a segment's forced-hold setting at its port (R14). -/
def Segment.forceChange (g : Segment) (was now : Bool) : Segment :=
  if was = now then g
  else if now then (if g.hold = .released then g.holdOff else g)
  else if g.ingress.length < 64 then g.letGo
  else g

/-- A numeric setting takes a value clamped to its range; whether it was corrected is returned beside it. -/
def setNumber (a b value : Nat) (set : Nat → Settings) (s : State) : State × Bool :=
  ({ s with settings := set (clamp a b value) }, clamp a b value != value)

/-- After a change of the supervision interval: "if the elapsed time already reaches the new interval, the timer expires at once"
(R165). -/
def retimeSweep (s : State) : State := if s.sweepDue then expireSweepTimer s else s

/-- After a change of the segment silence limit: a segment whose "present silence already reaches" it "becomes DOWN at once" (R17).
Several become DOWN in ascending segment number, an order the manual does not give (DESIGN CHOICE, log entry 31): the lowest
supplies the first scope of SEGMENT_DOWN (R170). -/
def retimeSilence (s : State) : State :=
  segmentNumbers.foldl (fun t n => if t.silenceDue n then fallSilent n t else t) s

/-- The settings of SET_PARAMETER by their codes, and the effects each has at its acceptance (R182, R184, Table 9-3); none for an
unknown setting, segment or condition. -/
def applySetting (setting which value : Nat) (s : State) : Option (State × Bool) :=
  match setting with
  | 1 =>
    some ((setNumber 10 600 value (fun v => { s.settings with supervisionInterval := v }) s).map retimeSweep id)
  | 2 => some (setNumber 1 15 value (fun v => { s.settings with silentLimit := v }) s)
  | 3 => some (setNumber 60 3600 value (fun v => { s.settings with staleLimit := v }) s)
  | 4 => some ((setNumber 2 60 value (fun v => { s.settings with silenceLimit := v }) s).map retimeSilence id)
  | 5 => some (setNumber 1 32 value (fun v => { s.settings with burstAllowance := v }) s)
  | 6 => some (setNumber 1 255 value (fun v => { s.settings with tracePrescale := v }) s)
  | 7 =>
    if 20 < which then none
    else
      some
        ({ s with settings := { s.settings with enables := put s.settings.enables (which + 1) (value != 0) } },
          decide (1 < value))
  | 8 =>
    if which = 0 ∨ 4 < which then none
    else
      some
        ({ s.setSegment which ((s.segment which).forceChange (s.forcedHold which) (value != 0)) with
            settings := { s.settings with forcedHold := put s.settings.forcedHold which (value != 0) } },
          decide (1 < value))
  | _ => none

/-- The decision of a SET_PARAMETER (R182). -/
def setParameter (setting which value : Nat) (s : State) : Verdict :=
  if s.writing then refuse .busy s
  else if s.staging = .cutting then refuse .busy s
  else
    match applySetting setting which value s with
    | some (t, clamped) => accept clamped (startWrite t)
    | none => refuse .refused s

/-- SET_PARAMETER (R182). -/
def execSetParameter (s : State) : Host.Outcome State Fault Refusal :=
  manage 18 false false
    (fun args t =>
      match args with
      | [setting, which, v1, v0] => setParameter setting.toNat which.toNat (number v1 v0) t
      | _ => refuse .refused t)
    s

/-- The decision of a SET_CLOSED_FLOOR: 0 asks for open floor and 1 for closed (R49, Table 11-6). -/
def setClosedFloor (asked : Nat) (s : State) : Verdict :=
  if s.writing then refuse .busy s
  else if s.staging = .cutting then refuse .busy s
  else if 1 < asked then refuse .refused s
  else if asked = 0 ∧ s.maint = false then refuse .locked s
  else accept false (startWrite { s with settings := { s.settings with closedFloor := asked == 1 } })

/-- SET_CLOSED_FLOOR (R49). -/
def execSetClosedFloor (s : State) : Host.Outcome State Fault Refusal :=
  manage 19 false false
    (fun args t =>
      match args with
      | [asked] => setClosedFloor asked.toNat t
      | _ => refuse .refused t)
    s

/-- FLUSH_READINGS (R104). -/
def execFlushReadings (s : State) : Host.Outcome State Fault Refusal :=
  manage 20 false false
    (fun _ t => if t.staging = .cutting then refuse .busy t else accept false { t with cache := [] }) s

/-- The pending flags of the conditions with these codes are cleared (R173). -/
def clearPendingFlags (codes : List Nat) (s : State) : State :=
  { s with
    notices := mapNumbered s.notices fun i n => if i - 1 ∈ codes then { n with pending := false } else n }

/-- The decision of a CLEAR_PENDING (R173). -/
def clearPending (codes : List Nat) (s : State) : Verdict :=
  if codes = [] ∨ 21 < codes.length ∨ codes.any (fun c => decide (20 < c)) = true then refuse .refused s
  else accept false (clearPendingFlags codes s)

/-- CLEAR_PENDING (R173). -/
def execClearPending (s : State) : Host.Outcome State Fault Refusal :=
  manage 21 false false (fun args t => clearPending (args.map BitVec.toNat) t) s

/-- "Sets the counter to 0 and clears the occurrence flag of every condition that is not pending" (R173). -/
def NoticeState.clearOccurrence (n : NoticeState) : NoticeState :=
  if n.pending then n else { n with counter := 0, occurrence := false }

/-- CLEAR_OCCURRENCES (R173). -/
def execClearOccurrences (s : State) : Host.Outcome State Fault Refusal :=
  manage 22 false false
    (fun _ t => accept false { t with notices := mapNumbered t.notices fun _ n => n.clearOccurrence }) s

/-- The store after a store write: the image is whole, or stays with a check that does not agree (R161). -/
def Store.written (w : Store) (success : Bool) : Store :=
  if success then { image := w.image.whole, status := .valid, writing := false }
  else { image := w.image, status := .invalid, writing := false }

/-- STORE_WRITE_COMPLETION: the image reads back with its check, or the memory refuses and STORE_FAILED is reported (R161). -/
def execStoreWriteCompletion (success : Bool) (s : State) : Host.Outcome State Fault Refusal :=
  .next
    (if s.running && s.writing then
      let t := { s with store := s.store.written success }
      if success then t else report .storeFailed none t
    else s)

end Sys2Proof.Machine
end

