-- ==== Sys2Proof/Machine/Staging.lean ====
section
/-! DEFINITION. The staging requests (chapter 8): edits, copy and discard, validation, rehearsal. -/

namespace Sys2Proof.Machine

/-- The staging state lets an edit pass (Table 8-2), or refuses it with a code. -/
def editRefusal : StagingState → Option Result
  | .empty => none
  | .editing => none
  | .validated => none
  | .rehearsing => none
  | .cutting => some .busy
  | .retained => some .badState

/-- An accepted edit (R131): rehearsal ends, the staged bank is changed, the state becomes EDITING and the result is cleared. -/
def edit (change : Bank → Bank) (s : State) : State :=
  let t := leaveTo .editing s
  { t with staged := change t.staged, result := .cleared }

/-- The windows of a WRITE_STAGED of windows at index `i` (R37). -/
def writeWindows (i : Nat) (ws : List Window) (list : List Window) : List Window := list.take i ++ ws ++ list.drop (i + ws.length)

/-- The window inserted at index `i` (R37). -/
def insertAt (i : Nat) (w : Window) (list : List Window) : List Window := list.take i ++ w :: list.drop i

/-- Records stored in a table from number `i` on, in request order (R22, R58). -/
def writeRecords {α : Type} {n : Nat} (t : Vector α n) (i : Nat) : List α → Vector α n
  | [] => t
  | r :: rs => writeRecords (put t i r) (i + 1) rs

/-- The records of a request stored one by one; none when one has not its table's size. -/
def storeAll {α : Type} (store : List Byte → Option (α × Bool)) : List (List Byte) → Option (List α × Bool)
  | [] => some ([], false)
  | r :: rs =>
    match store r, storeAll store rs with
    | some (a, changed), some (as, others) => some (a :: as, changed || others)
    | _, _ => none

/-- The decision of a WRITE_STAGED (R37, R22, R58, R131). -/
def writeStaged (table i : Nat) (body : List Byte) (s : State) : Verdict :=
  match editRefusal s.staging with
  | some r => refuse r s
  | none =>
    if table ≠ 1 ∧ table ≠ 3 ∧ table ≠ 7 then refuse .badTable s
    else
      let n := body.length / (recordSize table).getD 1
      if n = 0 ∨ 16 < n then refuse .refused s
      else if table = 1 then
        if s.staged.windows.length < i then refuse .badIndex s
        else if 512 < i + n then refuse .full s
        else
          match storeAll storeWindow (records 10 n body) with
          | some (ws, clamped) => accept clamped (edit (fun b => { b with windows := writeWindows i ws b.windows }) s)
          | none => refuse .refused s
      else if table = 3 then
        if i = 0 ∨ 255 < i + n - 1 then refuse .badIndex s
        else
          match storeAll storeZone (records 18 n body) with
          | some (rs, clamped) => accept clamped (edit (fun b => { b with zones := writeRecords b.zones i rs }) s)
          | none => refuse .refused s
      else if 31 < i + n - 1 then refuse .badIndex s
      else
        match storeAll storeEntry (records 11 n body) with
        | some (es, clamped) =>
          accept clamped (edit (fun b => { b with classifier := writeRecords b.classifier (i + 1) es }) s)
        | none => refuse .refused s

/-- WRITE_STAGED (R131). -/
def execWriteStaged (s : State) : Host.Outcome State Fault Refusal :=
  manage 4 false false
    (fun args t =>
      match args with
      | table :: i1 :: i0 :: body => writeStaged table.toNat (number i1 i0) body t
      | _ => refuse .refused t)
    s

/-- The decision of an INSERT_WINDOW (R37, R131). -/
def insertWindow (table i : Nat) (body : List Byte) (s : State) : Verdict :=
  match editRefusal s.staging with
  | some r => refuse r s
  | none =>
    if table ≠ 1 then refuse .badTable s
    else if s.staged.windows.length < i then refuse .badIndex s
    else if 512 ≤ s.staged.windows.length then refuse .full s
    else
      match storeWindow body with
      | some (w, clamped) => accept clamped (edit (fun b => { b with windows := insertAt i w b.windows }) s)
      | none => refuse .refused s

/-- INSERT_WINDOW (R37, R131). -/
def execInsertWindow (s : State) : Host.Outcome State Fault Refusal :=
  manage 5 false false
    (fun args t =>
      match args with
      | table :: i1 :: i0 :: body => insertWindow table.toNat (number i1 i0) body t
      | _ => refuse .refused t)
    s

/-- The window at index `i` of the staged list is removed (R37). -/
def deleteAt (i : Nat) (s : State) : Verdict :=
  if s.staged.windows.length ≤ i then refuse .badIndex s
  else accept false (edit (fun b => { b with windows := b.windows.eraseIdx i }) s)

/-- The decision of a DELETE_WINDOW (R37, R131). -/
def deleteWindow (table i : Nat) (s : State) : Verdict :=
  match editRefusal s.staging with
  | some r => refuse r s
  | none => if table ≠ 1 then refuse .badTable s else deleteAt i s

/-- DELETE_WINDOW (R37, R131). -/
def execDeleteWindow (s : State) : Host.Outcome State Fault Refusal :=
  manage 6 false false
    (fun args t =>
      match args with
      | [table, i1, i0] => deleteWindow table.toNat (number i1 i0) t
      | _ => refuse .refused t)
    s

/-- The decision of a CLEAR_ENTRY (R22, R37, R58, R131). -/
def clearEntry (table i : Nat) (s : State) : Verdict :=
  match editRefusal s.staging with
  | some r => refuse r s
  | none =>
    if table = 1 then deleteAt i s
    else if table = 3 then
      if i = 0 ∨ 255 < i then refuse .badIndex s
      else accept false (edit (fun b => { b with zones := put b.zones i .cleared }) s)
    else if table = 7 then
      if 31 < i then refuse .badIndex s
      else accept false (edit (fun b => { b with classifier := put b.classifier (i + 1) .cleared }) s)
    else refuse .badTable s

/-- CLEAR_ENTRY (R131). -/
def execClearEntry (s : State) : Host.Outcome State Fault Refusal :=
  manage 7 false false
    (fun args t =>
      match args with
      | [table, i1, i0] => clearEntry table.toNat (number i1 i0) t
      | _ => refuse .refused t)
    s

/-- The whole staged bank is replaced (R132). -/
def replaceStaged (next : StagingState) (bank : State → Bank) (s : State) : Verdict :=
  if s.staging = .cutting then refuse .busy s
  else
    let t := leaveTo next s
    accept false { t with staged := bank t, result := .cleared }

/-- COPY_ACTIVE (R132). -/
def execCopyActive (s : State) : Host.Outcome State Fault Refusal :=
  manage 8 false false (fun _ t => replaceStaged .editing (fun u => u.active) t) s

/-- DISCARD_STAGED (R132). -/
def execDiscardStaged (s : State) : Host.Outcome State Fault Refusal :=
  manage 9 false false (fun _ t => replaceStaged .empty (fun _ => Bank.empty) t) s

/-- The reply data of an INVALID reply: check and index (R184). -/
def invalidData (c : Check) (i : Nat) : List Byte := [byte c.code] ++ twoBytes i

/-- The decision of a VALIDATE (R130, R133). -/
def validate (s : State) : Verdict :=
  if s.staging = .cutting then refuse .busy s
  else if s.staging ≠ .empty ∧ s.staging ≠ .editing then refuse .badState s
  else
    let v := validationOf s.active s.staged s.maint
    if v.outcome = .failed then
      { state := report .stageRejected none { s with staging := .editing, result := v }
        result := .invalid
        data := invalidData (v.check.getD .order) (v.index.getD 0) }
    else accept false { s with staging := .validated, result := v }

/-- VALIDATE (R133). -/
def execValidate (s : State) : Host.Outcome State Fault Refusal := manage 10 false false (fun _ t => validate t) s

/-- The decision of a REHEARSE_START (R130, R138, R139). -/
def rehearseStart (s : State) : Verdict :=
  if s.staging = .cutting then refuse .busy s
  else if s.staging ≠ .validated then refuse .badState s
  else
    accept false
      { s with
        staging := .rehearsing
        shadow := mapNumbered s.shadow fun z _ => s.seed z
        engine := { s.engine with traceCount := 0 } }

/-- REHEARSE_START (R138). -/
def execRehearseStart (s : State) : Host.Outcome State Fault Refusal :=
  manage 11 false false (fun _ t => rehearseStart t) s

/-- The decision of a REHEARSE_STOP (R130, R138). -/
def rehearseStop (s : State) : Verdict :=
  if s.staging = .cutting then refuse .busy s
  else if s.staging ≠ .rehearsing then refuse .badState s
  else accept false (leaveTo .validated s)

/-- REHEARSE_STOP (R138, R143). -/
def execRehearseStop (s : State) : Host.Outcome State Fault Refusal :=
  manage 12 false false (fun _ t => rehearseStop t) s

end Sys2Proof.Machine
end

