-- ==== Sys2Proof/Machine/Sweeps.lean ====
section
/-! DEFINITION. The Supervision Unit's sweep (chapter 10), step by step. -/

namespace Sys2Proof.Machine

/-- SWEEP_TIMER_EXPIRY (R165, R166, R168). -/
def execSweepTimerExpiry (s : State) : Host.Outcome State Fault Refusal :=
  .next (if s.sweepDue then expireSweepTimer s else s)

/-- SWEEP_START: "the sweep number advances", and 0 follows 65535 (R165, R166). -/
def execSweepStart (s : State) : Host.Outcome State Fault Refusal :=
  .next
    (if s.running && decide (s.sweep.phase = .starting) then
      { s with
        sweep :=
          { s.sweep with number := if s.sweep.number < 65535 then s.sweep.number + 1 else 0, phase := .presence } }
    else s)

/-- A presence entry after its visit, with the condition it reports, on an UP segment (Table 10-1). -/
def PresenceEntry.visited (e : PresenceEntry) (silentLimit : Nat) : PresenceEntry × Option Condition :=
  if e.heard then
    ({ e with state := .present, missed := 0, heard := false },
      if e.state = .silent then some .deviceReturned else none)
  else
    match e.state with
    | .unknown => ({ e with missed := 0 }, none)
    | .present =>
      if e.missed + 1 < silentLimit then ({ e with missed := e.missed + 1 }, none)
      else ({ e with state := .silent, missed := e.missed + 1 }, some .deviceSilent)
    | .silent => (e, none)

/-- The visit of a presence entry: the segment its window names is read as its port holds it, and an entry on a DOWN segment is not
examined (R167). -/
def State.visit (s : State) (e : PresenceEntry) : PresenceEntry × Option Condition :=
  match lookup s.active.windows e.address with
  | some w => if (s.segment w.segment).line = .up then e.visited s.settings.silentLimit else (e, none)
  | none => (e, none)

/-- The presence pass over every entry, in ascending address order (R167). -/
def presencePass (s : State) : State :=
  s.presence.foldl
    (fun t e =>
      match (s.visit e).2 with
      | some c => report c (some e.address) t
      | none => t)
    { s with presence := s.presence.map fun e => (s.visit e).1 }

/-- PRESENCE_PASS (R166 part 2, R167). -/
def execPresencePass (s : State) : Host.Outcome State Fault Refusal :=
  .next
    (if s.running && decide (s.sweep.phase = .presence) then sweepTo (.temperatures 0) (presencePass s) else s)

/-- The temperature computation of zone `z` over the active list (R109). -/
def computeTemperature (z : Nat) (s : State) : State :=
  s.setZone z ((s.zone z).withReadings (s.includedReadings s.active.windows z))

/-- ZONE_TEMPERATURE_COMPUTATION (R166 part 3): the computation of the next present zone, and its sweep report. -/
def execZoneTemperatureComputation (s : State) : Host.Outcome State Fault Refusal :=
  .next
    (match s.sweep.phase with
      | .temperatures after =>
        if s.running then
          match nextZone (fun z => (s.record z).present) after with
          | some z => sweepTo (.temperatures z) (sweepReport z (computeTemperature z s))
          | none => settleSweep s
        else s
      | _ => s)

/-- The shadow temperature computation of zone `z` over the staged list (R115). -/
def computeShadowTemperature (z : Nat) (s : State) : State :=
  s.setShadow z ((s.shadowZone z).withReadings (s.includedReadings s.staged.windows z))

/-- SHADOW_TEMPERATURE_COMPUTATION (R115, R166 part 4): the computation of the next staged zone. -/
def execShadowTemperatureComputation (s : State) : Host.Outcome State Fault Refusal :=
  .next
    (match s.sweep.phase with
      | .shadow after =>
        if s.running && decide (s.staging = .rehearsing) then
          match nextZone (fun z => (s.stagedRecord z).present) after with
          | some z => sweepTo (.shadow z) (computeShadowTemperature z s)
          | none => settleSweep s
        else s
      | _ => s)

/-- The refresh of zone `z` (R72): its flag is cleared, then a level issue and, when the position is known, a damper issue. -/
def refreshZone (z : Nat) (s : State) : State :=
  damperIssue z (normalIssue z (s.setZone z { s.zone z with outputIncomplete := false }))

/-- REFRESH (R72, R166 part 5): the refresh of the next output-incomplete zone. -/
def execRefresh (s : State) : Host.Outcome State Fault Refusal :=
  .next
    (match s.sweep.phase with
      | .refresh after =>
        if s.running then
          match nextZone s.needsRefresh after with
          | some z => sweepTo (.refresh z) (refreshZone z s)
          | none => settleSweep s
        else s
      | _ => s)

end Sys2Proof.Machine
end

