-- ==== Sys2Proof/Machine/Timers.lean ====
section
/-! DEFINITION. Device time (R7) and the expiries of hold, grace and shadow timers (R80, R84, R98). -/

namespace Sys2Proof.Machine

/-- The device time after an advance; the successor of its last value is a free value (R7, log entry 5). -/
def State.nextSecond (s : State) : Second :=
  if s.deviceTime = 0xFFFFFFFF#32 then Config.timeAfterLast s.freeCount else s.deviceTime + 1

/-- One second passes: device time advances, the timers of zones and, in rehearsal, of shadow zones count, and the sweep timer
counts outside the store load (R7, R80, R84, R98, R165). -/
def advance (s : State) : State :=
  { s with
    deviceTime := s.nextSecond
    freeCount := if s.deviceTime = 0xFFFFFFFF#32 then s.freeCount + 1 else s.freeCount
    zones := mapNumbered s.zones fun _ z => z.tick
    shadow := if s.staging = .rehearsing then mapNumbered s.shadow fun _ z => z.tick else s.shadow
    sweep := { s.sweep with elapsed := if s.loading then s.sweep.elapsed else s.sweep.elapsed + 1 } }

/-- DEVICE_TIME_ADVANCE (R7). -/
def execDeviceTimeAdvance (s : State) : Host.Outcome State Fault Refusal := .next (if s.running then advance s else s)

/-- HOLD_EXPIRY (R81). -/
def execHoldExpiry (z : Nat) (s : State) : Host.Outcome State Fault Refusal :=
  .next
    (if s.holdDue z then
      zoneEvent z ((s.zone z).onHoldExpiry (s.record z) (s.freshPresence s.active.windows z)) s
    else s)

/-- GRACE_EXPIRY (R84). -/
def execGraceExpiry (z : Nat) (s : State) : Host.Outcome State Fault Refusal :=
  .next (if s.graceDue z then zoneEvent z (s.zone z).onGraceExpiry s else s)

/-- SHADOW_HOLD_EXPIRY (R98); its traces carry source zone 0 (R142). -/
def execShadowHoldExpiry (z : Nat) (s : State) : Host.Outcome State Fault Refusal :=
  .next
    (if s.shadowHoldDue z then
      shadowEvent 0 z
        ((s.shadowZone z).onHoldExpiry (s.stagedRecord z) (s.freshPresence s.staged.windows z)) s
    else s)

/-- SHADOW_GRACE_EXPIRY (R98); its traces carry source zone 0 (R142). -/
def execShadowGraceExpiry (z : Nat) (s : State) : Host.Outcome State Fault Refusal :=
  .next (if s.shadowGraceDue z then shadowEvent 0 z (s.shadowZone z).onGraceExpiry s else s)

end Sys2Proof.Machine
end

