-- ==== Sys2Proof/Machine/Translation.lean ====
section
/-! DEFINITION. The Translation Engine (R10, chapters 2 and 3): the take, and the translation of one record. -/

namespace Sys2Proof.Machine

/-- The take of the head record of segment `n` (R10, R13): the record leaves its queue, the pointer moves to the segment after, and
the record is in translation with the settings R48 and R140 read at the take. -/
def takeRecord (n : Nat) (r : IngressRecord) (rest : List IngressRecord) (s : State) : State :=
  { s.setSegment n (({ s.segment n with ingress := rest } : Segment).afterTake (s.forcedHold n)) with
    engine :=
      { s.engine with
        pointer := n % 4 + 1
        current :=
          some { record := r, closedFloor := s.settings.closedFloor, rehearsed := decide (s.staging = .rehearsing) } } }

/-- TAKE (R10, R11, R13). -/
def execTake (s : State) : Host.Outcome State Fault Refusal :=
  .next
    (if s.takeDue then
      match s.takeFrom with
      | some n =>
        match (s.segment n).ingress with
        | r :: rest => takeRecord n r rest s
        | [] => s
      | none => s
    else s)

/-- The heard flag of an address's presence entry is set; "a source with no entry is unaffected" (R164). -/
def markHeard (a : Nat) (s : State) : State :=
  { s with presence := s.presence.map fun e => if e.address = a then { e with heard := true } else e }

/-- A sensor's report is written to the point cache, and an implausible reading is reported (R100, R101). -/
def recordReport (a : Nat) (role : Role) (last : Report) (second : Second) (s : State) : State :=
  let t := { s with cache := writeCache s.cache a role last second }
  if last.implausible then report .implausibleReading (some a) t else t

/-- A class acts on a zone's occupancy machine (R79). -/
def actOnZone (z : Nat) (c : FrameClass) (s : State) : State := zoneEvent z ((s.zone z).onClass (s.record z) c) s

/-- An accepted acting class is handed on with the zone and role of the source's window (R29, Table 2-4). -/
def handOn (w : Window) (c : FrameClass) (r : IngressRecord) (s : State) : State :=
  let a := r.frame.source.toNat
  match c with
  | .presence => recordReport a w.role .presence r.second (actOnZone w.zone .presence s)
  | .absence => recordReport a w.role .absence r.second s
  | .temperature => recordReport a w.role (.reading (readingOf s.active.classifier r.frame)) r.second s
  | .keyOn => actOnZone w.zone .keyOn s
  | .keyOff => actOnZone w.zone .keyOff s
  | .keyRaise => actOnZone w.zone .keyRaise s
  | .keyLower => actOnZone w.zone .keyLower s
  | .setWarmer => actOnZone w.zone .setWarmer s
  | .setCooler => actOnZone w.zone .setCooler s
  | .pass => s
  | .ignore => s

/-- The class of a record from a Translate window is checked against the window's role and handed on or reported (R31). -/
def checkRole (w : Window) (c : FrameClass) (r : IngressRecord) (s : State) : State :=
  if w.translate = false ∨ c.acting = false then s
  else if w.role.accepts c then handOn w c r s
  else report .roleMismatch (some r.frame.source.toNat) s

/-- A record whose source lies in a window of the active list (R12, R28 steps 2 to 5, R42, Table 2-7). -/
def translateListed (w : Window) (r : IngressRecord) (s : State) : State :=
  let a := r.frame.source.toNat
  let s₁ := if w.segment ≠ r.segment then report .misplacedDevice (some a) s else s
  if w.translate = false ∧ w.forward = false then s₁
  else
    let c := classOf s.active.classifier r.frame
    let s₂ := if (winningEntry s.active.classifier r.frame).isNone then report .classifierMiss (some a) s₁ else s₁
    let s₃ := checkRole w c r s₂
    if c = .pass ∨ w.forward = true then
      offerForward { segment := r.segment, zone := w.zone, cls := c, frame := r.frame } s₃
    else s₃

/-- A record whose source is unlisted (R48): UNLISTED_SOURCE is reported; the record goes up on an open floor and is dropped on a
closed one. -/
def translateUnlisted (closed : Bool) (r : IngressRecord) (s : State) : State :=
  let a := r.frame.source.toNat
  let t :=
    if (winningEntry s.active.classifier r.frame).isNone then
      reportUnordered .classifierMiss .unlistedSource (some a) s
    else report .unlistedSource (some a) s
  if closed then t
  else
    offerForward
      { segment := r.segment, zone := 0, cls := classOf s.active.classifier r.frame, frame := r.frame } t

/-- The staged run of a record (R33): the staged bank's outcome drives the shadow record alone. -/
def stagedRun (r : IngressRecord) (s : State) : State :=
  let a := r.frame.source.toNat
  match lookup s.staged.windows a with
  | none => s
  | some w =>
    let c := classOf s.staged.classifier r.frame
    if w.translate = true ∧ w.role.accepts c = true then
      shadowEvent (((lookup s.active.windows a).map Window.zone).getD 0) w.zone
        ((s.shadowZone w.zone).onClass (s.stagedRecord w.zone) c) s
    else s

/-- The translation of a taken record, in the order of R28. -/
def translate (t : Translation) (s : State) : State :=
  let r := t.record
  let s₁ := markHeard r.frame.source.toNat s
  let s₂ :=
    match lookup s.active.windows r.frame.source.toNat with
    | some w => translateListed w r s₁
    | none => translateUnlisted t.closedFloor r s₁
  let s₃ := if t.rehearsed = true ∧ s.staging = .rehearsing then stagedRun r s₂ else s₂
  { s₃ with engine := { s₃.engine with current := none } }

/-- TRANSLATION_COMPLETION (R28). -/
def execTranslationCompletion (s : State) : Host.Outcome State Fault Refusal :=
  .next
    (match s.engine.current with
      | some t => if s.running then translate t s else s
      | none => s)

end Sys2Proof.Machine
end

