-- ==== Sys2Proof/Machine/Trunk.lean ====
section
/-! DEFINITION. The Trunk Port (chapters 7 and 11): received frames, the uplink arbiter, loss and restoration, and MAINT. -/

namespace Sys2Proof.Machine

/-- A MGMT_REQUEST is offered to the request slot; at a full slot it is discarded (R178). -/
def offerRequest (f : TrunkFrame) (s : State) : State :=
  match s.slot with
  | none => { s with slot := some { broadcast := decide (f.destination = 255), tag := f.tag, body := f.body } }
  | some _ => s

/-- A decoded FIELD_DOWN frame at the down path: UNDELIVERABLE during the store load, held while CUTTING, delivered at once
otherwise (R51, R176). -/
def fieldDown (d : FieldDown) (s : State) : State :=
  if s.loading then undeliverable d.frame s
  else if s.staging = .cutting then holdFrame s d
  else deliver s d

/-- An accepted trunk frame, by kind and source (R176). -/
def acceptTrunk (f : TrunkFrame) (s : State) : State :=
  if f.kind = 1 then
    if f.source = 0 then offerRequest f s else report .foreignManagement (some f.source.toNat) s
  else if f.kind = 3 then
    if f.source = 0 then
      match decodeFieldDown f.body with
      | some d => fieldDown d s
      | none => s
    else s
  else s

/-- TRUNK_FRAME_RECEIVED (R175, R176). -/
def execTrunkFrameReceived (bytes : List Byte) (s : State) : Host.Outcome State Fault Refusal :=
  .next
    (if s.running && decide (s.link = .up) then
      match receiveTrunk bytes with
      | some f => if f.destination = s.trunkAddress ∨ f.destination = 255 then acceptTrunk f s else s
      | none => s
    else s)

/-- A frame the device sends: source its trunk address, destination 0, and tag 0 except in a MGMT_REPLY (R126, R175). -/
def State.uplinkFrame (s : State) (kind tag : Byte) (body : List Byte) : TrunkFrame :=
  { destination := 0, source := s.trunkAddress, kind, tag, body }

/-- The uplink arbiter grants the first non-empty queue of "reply, notice, report, forward, trace", whose head entry, or all of
whose records, leave (R126); the zone of a report is no longer report-pending (R124). -/
def startTrunk (s : State) : State :=
  let u := s.uplink
  match u.replies with
  | r :: rest =>
    { s with uplink := { u with replies := rest }, trunkTransmitting := some (s.uplinkFrame 2 r.tag r.body).wire }
  | [] =>
    match u.notices with
    | _ :: _ =>
      { s with
        uplink := { u with notices := [] }
        trunkTransmitting := some (s.uplinkFrame 6 0 (u.notices.flatMap NoticeRecord.bytes)).wire }
    | [] =>
      match u.reports with
      | r :: rest =>
        { s with
          uplink := { u with reports := rest }
          zones := put s.zones r.zone { s.zone r.zone with reportPending := false }
          trunkTransmitting := some (s.uplinkFrame 5 0 r.bytes).wire }
      | [] =>
        match u.forwards with
        | f :: rest =>
          { s with uplink := { u with forwards := rest }, trunkTransmitting := some (s.uplinkFrame 4 0 f.bytes).wire }
        | [] =>
          match u.traces with
          | t :: rest =>
            { s with uplink := { u with traces := rest }, trunkTransmitting := some (s.uplinkFrame 7 0 t.bytes).wire }
          | [] => s

/-- TRUNK_TRANSMIT_START (R126). -/
def execTrunkTransmitStart (s : State) : Host.Outcome State Fault Refusal :=
  .next (if s.trunkStartDue then startTrunk s else s)

/-- TRUNK_TRANSMIT_COMPLETION (R126). -/
def execTrunkTransmitCompletion (s : State) : Host.Outcome State Fault Refusal :=
  .next (if s.running then { s with trunkTransmitting := none } else s)

/-- The uplink queues at a loss: reports are kept, the others discarded, forwards and traces counted (R127). -/
def Uplink.atLoss (u : Uplink) : Uplink :=
  { replies := [], notices := [], reports := u.reports, forwards := [], traces := [],
    forwardDiscards := advanceCountBy u.forwardDiscards u.forwards.length,
    traceDiscards := advanceCountBy u.traceDiscards u.traces.length }

/-- TRUNK_LOSS (R127, R177); the frame in transmission is lost. -/
def execTrunkLoss (s : State) : Host.Outcome State Fault Refusal :=
  .next
    (if s.running && decide (s.link = .up) then
      { s with link := .down, uplink := s.uplink.atLoss, trunkTransmitting := none }
    else s)

/-- One record is offered for every condition pending and enabled, in ascending code order (R172). -/
def offerPending (s : State) : State :=
  { s with
    uplink :=
      { s.uplink with
        notices :=
          (allConditions.filter fun c => (s.notice c).pending && s.enabled c).foldl
            (fun q c =>
              joinNotices q { condition := c, scope := (s.notice c).firstScope, counter := (s.notice c).counter })
            s.uplink.notices } }

/-- TRUNK_RESTORATION (R127, R172, R177). -/
def execTrunkRestoration (s : State) : Host.Outcome State Fault Refusal :=
  .next
    (if s.running && decide (s.link = .down) then offerPending (report .trunkRestored none { s with link := .up })
    else s)

/-- MAINT_CHANGE: MAINT becoming inactive withdraws a validation that relied on it (R136). -/
def execMaintChange (active : Bool) (s : State) : Host.Outcome State Fault Refusal :=
  let t := { s with maint := active }
  .next
    (if s.maint = true ∧ active = false ∧ (s.staging = .validated ∨ s.staging = .rehearsing) ∧ s.result.reliance = true
    then withdraw t
    else t)

end Sys2Proof.Machine
end

