-- ==== Sys2Proof/Machine/Zones.lean ====
section
/-! DEFINITION. The station zone actions (section 4.4). -/

namespace Sys2Proof.Machine

/-- The tests of a zone action that refuse it: CUTTING, then a zone that is not present (R74). -/
def zoneRefusal (z : Nat) (s : State) : Option Result :=
  if s.staging = .cutting then some .busy
  else if z = 0 ∨ 255 < z ∨ (s.record z).present = false then some .badIndex
  else none

/-- The decision of a ZONE_SET_LEVEL (R74, R75). -/
def zoneSetLevel (z requested : Nat) (s : State) : Verdict :=
  match zoneRefusal z s with
  | some r => refuse r s
  | none =>
    let v := (s.record z).clampLevel requested
    accept (v != requested) (zoneAction z ((s.zone z).setLevel (s.record z) v) s)

/-- ZONE_SET_LEVEL (R75). -/
def execZoneSetLevel (s : State) : Host.Outcome State Fault Refusal :=
  manage 15 false false
    (fun args t =>
      match args with
      | [z1, z0, l1, l0] => zoneSetLevel (number z1 z0) (number l1 l0) t
      | _ => refuse .refused t)
    s

/-- The decision of a ZONE_FORCE: state 0 is VACANT and 1 is OCCUPIED (R74, R76, Table 11-6). -/
def zoneForce (z requested : Nat) (s : State) : Verdict :=
  match zoneRefusal z s with
  | some r => refuse r s
  | none =>
    if requested = 1 then accept false (zoneAction z ((s.zone z).forceOccupied (s.record z)) s)
    else if requested = 0 then accept false (zoneAction z (s.zone z).forceVacant s)
    else refuse .refused s

/-- ZONE_FORCE (R76). -/
def execZoneForce (s : State) : Host.Outcome State Fault Refusal :=
  manage 16 false false
    (fun args t =>
      match args with
      | [z1, z0, state] => zoneForce (number z1 z0) state.toNat t
      | _ => refuse .refused t)
    s

/-- The decision of a ZONE_SET_DAMPER (R74, R77). -/
def zoneSetDamper (z requested : Nat) (s : State) : Verdict :=
  match zoneRefusal z s with
  | some r => refuse r s
  | none =>
    accept (decide (1000 < requested))
      (damperIssue z (s.setZone z { s.zone z with damper := some (min requested 1000) }))

/-- ZONE_SET_DAMPER (R77). -/
def execZoneSetDamper (s : State) : Host.Outcome State Fault Refusal :=
  manage 17 false false
    (fun args t =>
      match args with
      | [z1, z0, p1, p0] => zoneSetDamper (number z1 z0) (number p1 p0) t
      | _ => refuse .refused t)
    s

end Sys2Proof.Machine
end

