-- ==== Sys2Proof/Machine/Dispatch.lean ====
section
/-! DEFINITION. The meaning of every command: one arm for each row of spec/opcode_table.json, in the table's order. -/

namespace Sys2Proof.Machine

/-- A command's effect on everything but the queue of waiting commands. -/
def exec (i : Instr) (s : State) : Host.Outcome State Fault Refusal :=
  match i with
  | .coldReset => Sys2Proof.Machine.execColdReset s
  | .coldResetEnd straps => Sys2Proof.Machine.execColdResetEnd straps s
  | .loadCompletion => Sys2Proof.Machine.execLoadCompletion s
  | .deviceTimeAdvance => Sys2Proof.Machine.execDeviceTimeAdvance s
  | .receptionCompletion n bytes => Sys2Proof.Machine.execReceptionCompletion n bytes s
  | .segmentSilenceExpiry n => Sys2Proof.Machine.execSegmentSilenceExpiry n s
  | .take => Sys2Proof.Machine.execTake s
  | .translationCompletion => Sys2Proof.Machine.execTranslationCompletion s
  | .holdExpiry z => Sys2Proof.Machine.execHoldExpiry z s
  | .graceExpiry z => Sys2Proof.Machine.execGraceExpiry z s
  | .shadowHoldExpiry z => Sys2Proof.Machine.execShadowHoldExpiry z s
  | .shadowGraceExpiry z => Sys2Proof.Machine.execShadowGraceExpiry z s
  | .transmissionStart n => Sys2Proof.Machine.execTransmissionStart n s
  | .transmitCompletion n => Sys2Proof.Machine.execTransmitCompletion n s
  | .trunkFrameReceived bytes => Sys2Proof.Machine.execTrunkFrameReceived bytes s
  | .trunkTransmitStart => Sys2Proof.Machine.execTrunkTransmitStart s
  | .trunkTransmitCompletion => Sys2Proof.Machine.execTrunkTransmitCompletion s
  | .trunkLoss => Sys2Proof.Machine.execTrunkLoss s
  | .trunkRestoration => Sys2Proof.Machine.execTrunkRestoration s
  | .maintChange active => Sys2Proof.Machine.execMaintChange active s
  | .identify => Sys2Proof.Machine.execIdentify s
  | .readStatus => Sys2Proof.Machine.execReadStatus s
  | .readTable => Sys2Proof.Machine.execReadTable s
  | .writeStaged => Sys2Proof.Machine.execWriteStaged s
  | .insertWindow => Sys2Proof.Machine.execInsertWindow s
  | .deleteWindow => Sys2Proof.Machine.execDeleteWindow s
  | .clearEntry => Sys2Proof.Machine.execClearEntry s
  | .copyActive => Sys2Proof.Machine.execCopyActive s
  | .discardStaged => Sys2Proof.Machine.execDiscardStaged s
  | .validate => Sys2Proof.Machine.execValidate s
  | .rehearseStart => Sys2Proof.Machine.execRehearseStart s
  | .rehearseStop => Sys2Proof.Machine.execRehearseStop s
  | .cutover => Sys2Proof.Machine.execCutover s
  | .walkBegin => Sys2Proof.Machine.execWalkBegin s
  | .walkStepCompletion => Sys2Proof.Machine.execWalkStepCompletion s
  | .cutoverCompletion => Sys2Proof.Machine.execCutoverCompletion s
  | .abortCutover => Sys2Proof.Machine.execAbortCutover s
  | .zoneSetLevel => Sys2Proof.Machine.execZoneSetLevel s
  | .zoneForce => Sys2Proof.Machine.execZoneForce s
  | .zoneSetDamper => Sys2Proof.Machine.execZoneSetDamper s
  | .setParameter => Sys2Proof.Machine.execSetParameter s
  | .setClosedFloor => Sys2Proof.Machine.execSetClosedFloor s
  | .flushReadings => Sys2Proof.Machine.execFlushReadings s
  | .clearPending => Sys2Proof.Machine.execClearPending s
  | .clearOccurrences => Sys2Proof.Machine.execClearOccurrences s
  | .restart => Sys2Proof.Machine.execRestart s
  | .storeWriteCompletion success => Sys2Proof.Machine.execStoreWriteCompletion success s
  | .sweepTimerExpiry => Sys2Proof.Machine.execSweepTimerExpiry s
  | .sweepStart => Sys2Proof.Machine.execSweepStart s
  | .presencePass => Sys2Proof.Machine.execPresencePass s
  | .zoneTemperatureComputation => Sys2Proof.Machine.execZoneTemperatureComputation s
  | .shadowTemperatureComputation => Sys2Proof.Machine.execShadowTemperatureComputation s
  | .refresh => Sys2Proof.Machine.execRefresh s
  | .receptionStart n => Sys2Proof.Machine.execReceptionStart n s
  | .unknownRequestName => Sys2Proof.Machine.execUnknownRequestName s

end Sys2Proof.Machine
end

