-- ==== Sys2Proof/Safety.lean ====
section
/-! DEFINITION. What holds of a state that the part can be in: the laws the manual states over every state, one definition for each
group, and their conjunction `State.Law`. Claims name these. -/

namespace Sys2Proof.Machine

/-! ## Queues (R8, R116, R118, R123, R124, R125, R148) -/

/-- The queues of a segment keep their capacities, and no two waiting commands have one destination and kind. -/
def Segment.QueueLaw (g : Segment) : Prop :=
  g.ingress.length ≤ 128 ∧ g.commands.length ≤ 96 ∧ g.stations.length ≤ 32
    ∧ (g.commands.map fun c => (c.destination, c.kind)).Nodup

/-- The uplink queues keep their capacities, with one report for each zone and one record for each condition. -/
def Uplink.QueueLaw (u : Uplink) : Prop :=
  u.replies.length ≤ 8 ∧ u.forwards.length ≤ 128 ∧ u.traces.length ≤ 64 ∧ (u.reports.map ZoneReport.zone).Nodup
    ∧ (u.notices.map NoticeRecord.condition).Nodup

/-- Every queue of the part keeps its capacity and its keys, and while the trunk is down only reports wait for it (R127). -/
def State.QueueLaw (s : State) : Prop :=
  (∀ n, (s.segment n).QueueLaw) ∧ s.uplink.QueueLaw ∧ s.walk.held.length ≤ 32
    ∧ (s.link = .down →
      s.uplink.replies = [] ∧ s.uplink.notices = [] ∧ s.uplink.forwards = [] ∧ s.uplink.traces = [])

/-- A command entry's fields lie in the ranges of R116: "a destination address (1–4000), a kind (LEVEL or DAMPER), a value (0–1000), a
fade code (0–15, always 0 for DAMPER) and an originating zone (1–255)". -/
def CommandEntry.InRange (c : CommandEntry) : Prop :=
  (1 ≤ c.destination ∧ c.destination ≤ 4000) ∧ c.value ≤ 1000 ∧ c.fade ≤ 15 ∧ (c.kind = .damper → c.fade = 0) ∧ 1 ≤ c.zone
    ∧ c.zone ≤ 255

/-- Every waiting command lies in the ranges of R116. -/
def State.CommandLaw (s : State) : Prop := ∀ n, ∀ c ∈ (s.segment n).commands, c.InRange

/-! ## Levels and offsets (R61) -/

/-- "A zone's level is 0 whenever the zone is VACANT, and a zone's nonzero level always lies between its min-on level and 1000. A
zone's setpoint offset lies within −300..+300 in steps of 50 and is 0 whenever the zone is VACANT" (R61); a nonzero pre-grace level lies there too
(R82, R139, R152, R156). -/
def ZoneState.LevelLaw (z : ZoneState) (r : ZoneRecord) : Prop :=
  (z.occupancy = .vacant → z.level = 0 ∧ z.offset = 0) ∧ (z.level ≠ 0 → r.minOn ≤ z.level ∧ z.level ≤ 1000)
    ∧ (z.preGrace ≠ 0 → r.minOn ≤ z.preGrace ∧ z.preGrace ≤ 1000)
    ∧ -300 ≤ z.offset ∧ z.offset ≤ 300 ∧ z.offset % 50 = 0

/-- The law of R61 for every runtime record under its active record, for every shadow record (R64) and every computed state (R152)
under its staged record; outside REHEARSING every shadow record is idle (R138). -/
def State.LevelLaw (s : State) : Prop :=
  (∀ z, (s.zone z).LevelLaw (s.record z)) ∧ (∀ z, (s.shadowZone z).LevelLaw (s.stagedRecord z))
    ∧ (∀ c ∈ s.walk.computed, c.2.LevelLaw (s.stagedRecord c.1))
    ∧ (s.staging ≠ .rehearsing → s.shadow = Vector.replicate 255 .idle)

/-! ## Zone states (R60, Table 4-2) -/

/-- The timer that runs has at least a second left, "between events, an OCCUPIED zone's hold remaining therefore lies in 1–7200 s"
(R80), and an expiry that is due is that of a timer at its last second (R80, R84, log entry 13). -/
def ZoneState.TimerLaw (z : ZoneState) : Prop :=
  (z.occupancy = .occupied → 1 ≤ z.hold) ∧ (z.occupancy = .grace → 1 ≤ z.grace)
    ∧ (z.expiring = true → z.occupancy = .occupied ∧ z.hold = 1 ∨ z.occupancy = .grace ∧ z.grace = 1)

/-- The fields of a zone state lie in the ranges of Table 4-2; a zone temperature is a mean of plausible readings, 0..5000, and so a
spread is at most 5000 (R107, R113). -/
def ZoneState.InRange (z : ZoneState) : Prop :=
  z.TimerLaw ∧ z.hold ≤ 7200 ∧ z.grace ≤ 300 ∧ (∀ t, z.temperature = some t → 0 ≤ t ∧ t ≤ 5000)
    ∧ (z.temperature = none ↔ z.status = .none) ∧ z.count ≤ 32 ∧ z.spread ≤ 5000 ∧ ∀ p, z.damper = some p → p ≤ 1000

/-- Every zone state the part holds lies in the ranges of Table 4-2. -/
def State.RangeLaw (s : State) : Prop :=
  (∀ z, (s.zone z).InRange) ∧ (∀ z, (s.shadowZone z).InRange) ∧ ∀ c ∈ s.walk.computed, c.2.InRange

/-- "The record of a zone that is not present in the active zone table holds the idle values" (R60). -/
def State.IdleLaw (s : State) : Prop := ∀ z, (s.record z).present = false → s.zone z = .idle

/-! ## Plans (R36, R37, R39, R58, R129) -/

/-- A window's fields lie in the ranges of Table 3-1. -/
def Window.InRange (w : Window) : Prop :=
  1 ≤ w.low ∧ w.low ≤ w.high ∧ w.high ≤ 4000 ∧ 1 ≤ w.segment ∧ w.segment ≤ 4 ∧ w.zone ≤ 255 ∧ 50 ≤ w.trim ∧ w.trim ≤ 100
    ∧ 1 ≤ w.weight ∧ w.weight ≤ 15

/-- A zone record's fields lie in the ranges of Table 4-1. -/
def ZoneRecord.InRange (r : ZoneRecord) : Prop :=
  (1 ≤ r.onLevel ∧ r.onLevel ≤ 1000) ∧ (1 ≤ r.minOn ∧ r.minOn ≤ 1000) ∧ (10 ≤ r.step ∧ r.step ≤ 200)
    ∧ (1 ≤ r.holdTime ∧ r.holdTime ≤ 120) ∧ r.graceTime ≤ 300 ∧ r.gracePercent ≤ 100
    ∧ (1000 ≤ r.comfort ∧ r.comfort ≤ 3500) ∧ (1000 ≤ r.setback ∧ r.setback ≤ 3500) ∧ r.normalFade ≤ 15
    ∧ r.rezoneFade ≤ 15 ∧ r.spreadAlarm ≤ 1000

/-- A bank that may be edited: at most 512 windows, and every window and zone record in range. -/
def Bank.Stored (b : Bank) : Prop :=
  b.windows.length ≤ 512 ∧ (∀ w ∈ b.windows, w.InRange) ∧ ∀ z, (b.zone z).InRange

/-- A bank that may be active: stored, and passing every validation check but the pin test, which compares two banks (R39). -/
def Bank.Valid (b : Bank) : Prop := b.Stored ∧ firstFailure b = none

/-- The active bank is valid, and so is the staged bank in the states that require it (R39, R129), and the bank of a valid store image
(R160). -/
def State.PlanLaw (s : State) : Prop :=
  s.active.Valid ∧ s.staged.Stored
    ∧ (s.staging ≠ .empty → s.staging ≠ .editing → s.staged.Valid)
    ∧ (s.store.image.agrees = true → s.store.image.bank.Valid)

/-- A store write in progress has an image whose check does not agree and status INVALID, status VALID goes with an image whose check
agrees, and in both cases the image holds the bank, generation and settings in force (R160, R161, R162). -/
def State.StoreLaw (s : State) : Prop :=
  (s.store.writing = true → s.store.image.agrees = false ∧ s.store.status = .invalid)
    ∧ (s.store.status = .valid → s.store.image.agrees = true)
    ∧ (s.store.writing = true ∨ s.store.status = .valid →
      s.store.image.bank = s.active ∧ s.store.image.generation = s.generation ∧ s.store.image.settings = s.settings)

/-- "The plan generation is 0 exactly when no cutover has installed the active bank: the bank is then the empty plan …" (R159); so
too for a valid image. -/
def State.GenerationLaw (s : State) : Prop :=
  (s.generation = 0 → s.active = Bank.empty)
    ∧ (s.store.image.agrees = true → s.store.image.generation = 0 → s.store.image.bank = Bank.empty)

/-- In VALIDATED, REHEARSING and CUTTING the staged bank passes the pin test against the active bank, unless the validation result
records MAINT reliance (R55, R56, R133, R135, R146). -/
def State.PinLaw (s : State) : Prop :=
  s.staging = .validated ∨ s.staging = .rehearsing ∨ s.staging = .cutting → s.result.reliance = false →
    pinTest s.active s.staged = none

/-- A validation that relied on MAINT stands only while MAINT is active (R136, R145, R154 step 3). -/
def State.RelianceLaw (s : State) : Prop :=
  s.staging = .validated ∨ s.staging = .rehearsing → s.result.reliance = true → s.maint = true

/-! ## Cutover (R11, R97, R148, R149, R153, R168) -/

/-- The walk has come as far as its phase says (R149): before the first step there is no cursor and no computed state; in a step the
cursor is at a zone the walk visits, and exactly the visited zones below it have computed states; at the end exactly the visited
zones have them, and the cursor is at the last. -/
def State.WalkLaw (s : State) : Prop :=
  match s.walk.phase with
  | .inactive => False
  | .waiting => s.walk.cursor = 0 ∧ s.walk.computed = []
  | .stepping =>
    s.walks s.walk.cursor = true
      ∧ ∀ z, (s.walk.stateOf z).isSome = (s.walks z && decide (z < s.walk.cursor))
  | .finished =>
    s.walks s.walk.cursor = true ∧ (∀ z, s.walk.cursor < z → s.walks z = false)
      ∧ ∀ z, (s.walk.stateOf z).isSome = s.walks z

/-- Outside CUTTING there is no walk, the gate is open, no zone is frozen, the hold queue is empty and no sweep is deferred; in CUTTING
a walk is on, the gate is closed, exactly the present zones that are not pinned are frozen (R147) and no store write is in progress. -/
def State.CutoverLaw (s : State) : Prop :=
  (s.staging ≠ .cutting →
      s.walk = Walk.none ∧ s.engine.gateOpen = true ∧ s.sweep.deferred = false ∧ ∀ z, (s.zone z).frozen = false)
    ∧ (s.staging = .cutting →
      s.WalkLaw ∧ s.engine.gateOpen = false ∧ s.store.writing = false
        ∧ ∀ z, (s.zone z).frozen = ((s.record z).present && !pinned s.active.windows z))

/-! ## Keyed tables and reports (R99, R114, R163) -/

/-- The missed count of a presence entry: at most 15, at most 14 while PRESENT, and 0 while UNKNOWN (R163, R167). -/
def PresenceEntry.MissedLaw (e : PresenceEntry) : Prop :=
  e.missed ≤ 15 ∧ (e.state = .present → e.missed ≤ 14) ∧ (e.state = .unknown → e.missed = 0)

/-- The point cache and the presence table hold at most one entry for each address, in ascending order; "the presence table holds one
entry for each supervised address of the active bank" and no other, with its missed count in range (R163). -/
def State.TableLaw (s : State) : Prop :=
  (s.cache.map CacheEntry.address).Pairwise (· < ·) ∧ (s.presence.map PresenceEntry.address).Pairwise (· < ·)
    ∧ (∀ a, a ∈ s.presence.map PresenceEntry.address ↔ a ∈ supervisedAddresses s.active.windows)
    ∧ ∀ e ∈ s.presence, e.MissedLaw

/-- "Every entry's address lies in an active window whose role equals the entry's role", an entry of sensor role holds what its role
reports, and its implausible flag is that of its report (R99). -/
def State.CacheLaw (s : State) : Prop :=
  ∀ e ∈ s.cache,
    (∃ w, lookup s.active.windows e.address = some w ∧ w.role = e.role) ∧ e.implausible = e.last.implausible
      ∧ (e.role = .occupancySensor ∧ (e.last = .presence ∨ e.last = .absence)
        ∨ e.role = .temperatureSensor ∧ ∃ t, e.last = .reading t ∧ -4000 ≤ t ∧ t ≤ 8500)

/-- A zone's report-pending flag is set exactly while a report of the zone waits (Table 4-2, R114, R124). -/
def State.ReportLaw (s : State) : Prop := ∀ z, (s.zone z).reportPending = s.reportWaits z

/-! ## Settings and counts (Table 9-3, R18, R123, R159, R165, R170) -/

/-- The numeric settings lie in the ranges of Table 9-3. -/
def Settings.InRange (c : Settings) : Prop :=
  (10 ≤ c.supervisionInterval ∧ c.supervisionInterval ≤ 600) ∧ (1 ≤ c.silentLimit ∧ c.silentLimit ≤ 15)
    ∧ (60 ≤ c.staleLimit ∧ c.staleLimit ≤ 3600) ∧ (2 ≤ c.silenceLimit ∧ c.silenceLimit ≤ 60)
    ∧ (1 ≤ c.burstAllowance ∧ c.burstAllowance ≤ 32) ∧ (1 ≤ c.tracePrescale ∧ c.tracePrescale ≤ 255)

/-- The settings in force and in a valid image lie in their ranges, no burst count exceeds 32 (R121) and the
trace prescale count is at most 254 (R141). -/
def State.SettingsLaw (s : State) : Prop :=
  s.settings.InRange ∧ (s.store.image.agrees = true → s.store.image.settings.InRange)
    ∧ (∀ n, (s.segment n).burst ≤ 32) ∧ s.engine.traceCount ≤ 254

/-- Every 16-bit count stays within 16 bits, and "every condition whose pending flag is set also has its occurrence flag set"
(R170). -/
def State.CountLaw (s : State) : Prop :=
  (∀ n, (s.segment n).received ≤ 65535 ∧ (s.segment n).malformed ≤ 65535 ∧ (s.segment n).overflow ≤ 65535)
    ∧ (s.uplink.forwardDiscards ≤ 65535 ∧ s.uplink.traceDiscards ≤ 65535)
    ∧ (∀ c, (s.notice c).counter ≤ 65535 ∧ ((s.notice c).pending = true → (s.notice c).occurrence = true))
    ∧ s.sweep.number ≤ 65535 ∧ s.generation ≤ 65535
    ∧ (s.store.image.agrees = true → s.store.image.generation ≤ 65535)

/-! ## Reset and store load (R19, R62, R122, R129, R162, R163, R165) -/

/-- While RESETN is low and while the store load is in progress, the plan is empty and the settings are at their defaults, no zone, sensor
or device has a state, nothing is in translation and no sweep runs, and no command, delivery or report waits. -/
def State.LoadLaw (s : State) : Prop :=
  s.resetLow = true ∨ s.loading = true →
    s.active = Bank.empty ∧ s.staged = Bank.empty ∧ s.generation = 0 ∧ s.settings = Settings.default
      ∧ s.staging = .empty ∧ s.zones = Vector.replicate 255 .idle ∧ s.cache = [] ∧ s.presence = []
      ∧ s.engine.current = none ∧ s.sweep.phase = .idle ∧ s.store.status = .invalid ∧ s.store.writing = false
      ∧ s.uplink.reports = [] ∧ ∀ n, (s.segment n).commands = [] ∧ (s.segment n).stations = []

/-! ## All the laws -/

/-- The laws of a state the part can be in, together. -/
structure State.Law (s : State) : Prop where
  queue : s.QueueLaw
  command : s.CommandLaw
  level : s.LevelLaw
  range : s.RangeLaw
  idle : s.IdleLaw
  plan : s.PlanLaw
  store : s.StoreLaw
  generation : s.GenerationLaw
  pin : s.PinLaw
  reliance : s.RelianceLaw
  cutover : s.CutoverLaw
  table : s.TableLaw
  cache : s.CacheLaw
  report : s.ReportLaw
  settings : s.SettingsLaw
  count : s.CountLaw
  load : s.LoadLaw

/-! ## How a sweep goes on, as claims name it (R166, R168)

Each relates the state `u` in which a part of the sweep has been made, its sweep state not yet moved on, to the state `t` that
follows. -/

/-- The sweep ends. None waits: no sweep is in progress. One waits: it falls due, and while CUTTING it is deferred, or absorbed with
REPORT_OVERRUN when a sweep is deferred already. -/
def State.SweepEnds (u t : State) : Prop :=
  let ended : Sweep := { u.sweep with phase := .idle, waiting := u.sweep.waiting - 1 }
  (u.sweep.waiting = 0 → t = { u with sweep := ended })
    ∧ (u.sweep.waiting ≠ 0 → u.staging ≠ .cutting → t = { u with sweep := { ended with phase := .starting } })
    ∧ (u.sweep.waiting ≠ 0 → u.staging = .cutting → u.sweep.deferred = false →
      t = { u with sweep := { ended with deferred := true } })
    ∧ (u.sweep.waiting ≠ 0 → u.staging = .cutting → u.sweep.deferred = true →
      t = report .reportOverrun none { u with sweep := ended })

/-- Part 5 has dealt with the zones up to `after`: it goes on while an output-incomplete present zone above is not frozen, and the
sweep ends otherwise. -/
def State.RefreshGoesOn (after : Nat) (u t : State) : Prop :=
  let left := ∃ y, after < y ∧ (u.record y).present = true ∧ (u.zone y).outputIncomplete = true ∧ (u.zone y).frozen = false
  (left → t = { u with sweep := { u.sweep with phase := .refresh after } }) ∧ (¬left → u.SweepEnds t)

/-- Part 4, made while REHEARSING, has dealt with the staged zones up to `after`: it goes on while there is one above, and part 5
follows. -/
def State.ShadowGoesOn (after : Nat) (u t : State) : Prop :=
  let left := u.staging = .rehearsing ∧ ∃ y, after < y ∧ (u.stagedRecord y).present = true
  (left → t = { u with sweep := { u.sweep with phase := .shadow after } }) ∧ (¬left → u.RefreshGoesOn 0 t)

/-- Part 3 has dealt with the present zones up to `after`: it goes on while there is one above, and part 4 follows. -/
def State.TemperaturesGoOn (after : Nat) (u t : State) : Prop :=
  let left := ∃ y, after < y ∧ (u.record y).present = true
  (left → t = { u with sweep := { u.sweep with phase := .temperatures after } }) ∧ (¬left → u.ShadowGoesOn 0 t)

/-- A sweep in progress goes on after a change of what it has left to do. -/
def State.SweepGoesOn (u t : State) : Prop :=
  match u.sweep.phase with
  | .idle => t = u
  | .starting => t = u
  | .presence => t = u
  | .temperatures after => u.TemperaturesGoOn after t
  | .shadow after => u.ShadowGoesOn after t
  | .refresh after => u.RefreshGoesOn after t

/-! ## Events at a zone, as claims name them (R70, R79, R94) -/

/-- What an event of the occupancy machine at zone `z` leaves, when it leaves the zone's record as `after`: the change of the record, then
a level issue with the normal fade code when L changed, then a report when the occupancy state changed and the zone reports on change. -/
def State.afterEvent (s : State) (z : Nat) (after : ZoneState) : State :=
  let changed := s.setZone z after
  let issued := if after.level = (s.zone z).level then changed else levelIssue z (s.record z).normalFade changed
  if after.occupancy = (s.zone z).occupancy ∨ (s.record z).reportOnChange = false then issued else queueReport z issued

/-! ## Requests, as claims name them (R178) -/

/-- The Management Unit may take request `r` now: RESETN is high, `r` is in the slot and the reply queue has a free place. -/
def State.Takes (s : State) (r : Request) : Prop :=
  s.resetLow = false ∧ s.slot = some r ∧ s.uplink.replies.length < 8

/-- Request `r` may be taken now, and neither its destination nor a store load refuses it. -/
def State.Admits (s : State) (r : Request) : Prop := s.Takes r ∧ r.broadcast = false ∧ s.loading = false

/-- The state after the one reply to request `r`, of request code `code`, is queued. -/
def State.answer (s : State) (r : Request) (code : Nat) (result : Result) (data : List Byte) : State :=
  offerReply { tag := r.tag, body := byte code :: byte result.code :: data } s

/-- The engine after rehearsal has ended: as before, but that the record in translation keeps no staged run, which the end of rehearsal
cancels (R140). -/
def Engine.runCancelled (e : Engine) : Engine :=
  { e with current := e.current.map fun x => { x with rehearsed := false } }

/-- The engine after a change of the staging state: the end of rehearsal cancels a staged run, and nothing else reaches the engine
(R140, R143). -/
def State.engineLeft (s : State) : Engine := if s.staging = .rehearsing then s.engine.runCancelled else s.engine

/-- The zone state is as before but for the flags that an issue and a report may set. -/
def ZoneState.SameButFlags (z v : ZoneState) : Prop :=
  v = { z with outputIncomplete := v.outputIncomplete, reportPending := v.reportPending }

end Sys2Proof.Machine
end

