-- ==== Sys2Proof/Certificates/Slice0/Obligations.lean ====
section
/-! DEFINITION. The statements for the provers. Each is a claim about the machine, over every state and every operand that its premises
allow. -/

section ObligationText

open Sys2Proof Sys2Proof.Machine

/-! ## The machine -/

/-- A step takes the command at the front of the queue and is that command's meaning on the state with the rest of the queue; on
an empty queue it idles, which is the model's choice (log entry 11). -/
def Obligations.StepRunsFrontCommand : Prop :=
  (∀ (c : Instr) (rest : List Instr) (s : State), s.pending = c :: rest → step s = exec c { s with pending := rest })
    ∧ ∀ s : State, s.pending = [] → step s = .next s

/-- Every command, due or not, answers a next state from every state, which is the model's reading (a command that is not due
changes nothing: log entry 1, DESIGN CHOICE; the machine has no fault and refuses nothing: log entry 27, DEDUCED), and leaves the
queue of waiting commands, the model's own field (log entry 3), alone. -/
def Obligations.EveryCommandAnswersNext : Prop :=
  ∀ (c : Instr) (s : State), ∃ t, exec c s = .next t ∧ t.pending = s.pending

/-- The state of the model at reset meets every law, and holds the values the manual gives: the store load in progress with status
INVALID (R162), device time 0 (R7), the segments, arbiters and engine as cold reset leaves them (R19, R116, R118, R119, R121,
R141), both banks empty with every record and entry at the defaults of Tables 4-1 and 2-1 (R129), generation 0 (R159), the
settings at the defaults of Table 9-3, every zone record at the idle values of Table 4-2 (R62, R64), cache and presence table
empty (R105, R163), the sweep state (R165), staging state and result (R129, R137), the Notice Unit clear (R174), and the uplink
empty under a link that is DOWN (R128, R177). The levels of the input pins, the trunk address, and bank, generation and settings
of the store image are the model's choice, and not stated (log entries 8 to 10), as are the model's own fields (log entry 3). -/
def Obligations.ResetMeetsEveryLaw : Prop :=
  let s := State.reset
  s.Law
    ∧ s.loading = true ∧ s.store.status = .invalid ∧ s.store.writing = false ∧ s.deviceTime = 0
    ∧ (∀ n, s.segment n =
      { receiving := false, ingress := [], hold := .released, line := .down, lastArrival := none, received := 0
        malformed := 0, overflow := 0, commands := [], stations := [], control := none, burst := 0, transmitting := none })
    ∧ s.engine = { pointer := 1, gateOpen := true, current := none, traceCount := 0 }
    ∧ (∀ b ∈ [s.active, s.staged],
      b.windows = []
        ∧ (∀ z, b.zone z =
          { present := false, onLevel := 800, minOn := 100, step := 50, holdTime := 15, graceTime := 60, gracePercent := 50
            autoOn := true, comfort := 2150, setback := 1800, normalFade := 2, rezoneFade := 8, spreadAlarm := 0
            reportOnChange := true })
        ∧ ∀ i : Fin 32, b.classifier[i] =
          { present := false, kindPattern := 0, kindMask := 0, pointPattern := 0, pointMask := 0, valuePattern := 0
            valueMask := 0, cls := .ignore, timesTen := false })
    ∧ s.generation = 0
    ∧ (s.settings.supervisionInterval = 60 ∧ s.settings.silentLimit = 3 ∧ s.settings.staleLimit = 900
      ∧ s.settings.silenceLimit = 10 ∧ s.settings.burstAllowance = 8 ∧ s.settings.tracePrescale = 1
      ∧ (∀ c, s.enabled c = true) ∧ (∀ n, s.forcedHold n = false) ∧ s.settings.closedFloor = false)
    ∧ (∀ z, s.zone z = s.shadowZone z
      ∧ s.zone z =
        { occupancy := .vacant, hold := 0, grace := 0, level := 0, preGrace := 0, offset := 0, temperature := none
          status := .none, count := 0, spread := 0, damper := none, outputIncomplete := false, reportPending := false
          frozen := false, expiring := (s.zone z).expiring })
    ∧ s.cache = [] ∧ s.presence = []
    ∧ s.sweep = { elapsed := 0, number := 0, phase := .idle, waiting := 0, deferred := false }
    ∧ s.staging = .empty ∧ s.result = { outcome := .none, check := none, index := none, reliance := false }
    ∧ s.walk = { phase := .inactive, cursor := 0, revert := false, computed := [], held := [] }
    ∧ (∀ c, s.notice c = { pending := false, occurrence := false, counter := 0, firstScope := none })
    ∧ s.uplink =
      { replies := [], notices := [], reports := [], forwards := [], traces := [], forwardDiscards := 0, traceDiscards := 0 }
    ∧ s.link = .down ∧ s.trunkTransmitting = none ∧ s.slot = none

/-! ## What every step keeps -/

/-- Every step keeps the capacities and keys of all queues (R8, R116, R118, R123 to R125, R127, R148). -/
def Obligations.QueuesKeepTheirBounds : Prop := ∀ s s' : State, s.Law → step s = .next s' → s'.QueueLaw

/-- Every step keeps the laws of R61 for levels and offsets, of runtime, shadow and computed zone states, and every waiting
command, with the level or position it carries, in the ranges of R116. -/
def Obligations.LevelsKeepTheirBounds : Prop :=
  ∀ s s' : State, s.Law → step s = .next s' → s'.LevelLaw ∧ s'.CommandLaw

/-- Every step keeps every zone state in the ranges of Table 4-2 (R60), with at least a second left on the timer that runs (R80,
R151): a second that would take it to 0 makes its expiry due, which is the model's choice (log entry 13). -/
def Obligations.ZoneStatesStayInRange : Prop := ∀ s s' : State, s.Law → step s = .next s' → s'.RangeLaw

/-- Every step keeps the records of zones that are not present idle (R60), and each report-pending flag set exactly while a report
of its zone waits (R114, R124). -/
def Obligations.AbsentZonesStayIdleAndFlagsMatchReports : Prop :=
  ∀ s s' : State, s.Law → step s = .next s' → s'.IdleLaw ∧ s'.ReportLaw

/-- Every step keeps every plan that is active, stored or past validation a valid one (R39, R129, R160), the generation 0 only
with the empty plan (R159), and the store image in agreement with the store state and status and with what is in force (R160 to
R162). -/
def Obligations.PlansStayValid : Prop :=
  ∀ s s' : State, s.Law → step s = .next s' → s'.PlanLaw ∧ s'.GenerationLaw ∧ s'.StoreLaw

/-- Every step keeps the pin test passed, unless on MAINT reliance, from validation to completion (R55), and a reliance only while
MAINT is active (R136). -/
def Obligations.PinsAndRelianceHold : Prop :=
  ∀ s s' : State, s.Law → step s = .next s' → s'.PinLaw ∧ s'.RelianceLaw

/-- Every step keeps walk, gate, frozen flags, hold queue and deferred sweep as the staging state has them: in CUTTING exactly the
present zones that are not pinned are frozen (R147), and exactly the zones the walk has passed have computed states (R149);
outside CUTTING there is no walk (R11, R97, R148, R153, R168). -/
def Obligations.WalkStateMatchesStaging : Prop := ∀ s s' : State, s.Law → step s = .next s' → s'.CutoverLaw

/-- Every step keeps point cache and presence table keyed and ascending, the presence table with one entry for each supervised
address and no other and every missed count at most 15 (R163, R167), and every cache entry in an active window of its own role
(R99). The supervised addresses of a list are those of its windows with Supervise set (R46). -/
def Obligations.TablesStayKeyed : Prop :=
  (∀ s s' : State, s.Law → step s = .next s' → s'.TableLaw ∧ s'.CacheLaw)
    ∧ ∀ (windows : List Window) (a : Nat),
      a ∈ supervisedAddresses windows ↔ ∃ w ∈ windows, w.supervise = true ∧ w.low ≤ a ∧ a ≤ w.high

/-- Every step keeps the settings in the ranges of Table 9-3, every 16-bit count within 16 bits, and the occurrence flag of every
pending condition (R18, R121, R123, R141, R159, R165, R170). -/
def Obligations.SettingsAndCountsStayInRange : Prop :=
  ∀ s s' : State, s.Law → step s = .next s' → s'.SettingsLaw ∧ s'.CountLaw

/-- Every step keeps the part empty and at its defaults while RESETN is low and while the store load is in progress (R19, R62,
R122, R129, R162, R163). What holds while RESETN is low, before the store load, is the model's choice (log entry 22). -/
def Obligations.LoadIsQuiet : Prop := ∀ s s' : State, s.Law → step s = .next s' → s'.LoadLaw

/-- "Every window pinned in the active map appears unchanged in low, high, segment, zone and role in the next active map, except
across a cutover whose validation relied on the MAINT line" and except at a cold reset, which empties the active bank until the
store load ends (R56). -/
def Obligations.PinnedWindowsSurvive : Prop :=
  ∀ s s' : State, s.Law → step s = .next s' → ∀ w ∈ s.active.windows, w.pin = true →
    (∃ v ∈ s'.active.windows, v.low = w.low ∧ v.high = w.high ∧ v.segment = w.segment ∧ v.zone = w.zone ∧ v.role = w.role)
      ∨ (s.staging = .cutting ∧ s.result.reliance = true) ∨ s'.resetLow = true

/-! ## The membership map and the limits of a valid plan -/

/-- A lookup of an address in a window list hits the first window, in index order, whose high is at least the address, when its
low is at most the address, and misses otherwise; in an active list a hit is on the one window that contains the address, a miss
means that none contains it, and 0 and every address above 4000 is unlisted (R40). -/
def Obligations.LookupFindsTheOneWindow : Prop :=
  (∀ (windows : List Window) (a : Nat),
    (∀ w, lookup windows a = some w ↔
      ∃ before after, windows = before ++ w :: after ∧ w.low ≤ a ∧ a ≤ w.high ∧ ∀ v ∈ before, v.high < a)
    ∧ (lookup windows a = none ↔
      (∀ w ∈ windows, w.high < a)
        ∨ ∃ w before after, windows = before ++ w :: after ∧ a ≤ w.high ∧ a < w.low ∧ ∀ v ∈ before, v.high < a))
  ∧ ∀ (b : Bank) (a : Nat), b.Valid →
    (∀ w, lookup b.windows a = some w ↔ w ∈ b.windows ∧ w.low ≤ a ∧ a ≤ w.high)
      ∧ (∀ w v, w ∈ b.windows → w.low ≤ a → a ≤ w.high → v ∈ b.windows → v.low ≤ a → a ≤ v.high → w = v)
      ∧ (lookup b.windows a = none ↔ ∀ w ∈ b.windows, ¬(w.low ≤ a ∧ a ≤ w.high))
      ∧ (a = 0 ∨ 4000 < a → lookup b.windows a = none)

/-- "The point cache holds at most 1,024 entries" (R99). -/
def Obligations.CacheHoldsAtMost1024 : Prop := ∀ s : State, s.Law → s.cache.length ≤ 1024

/-- The commands that a level issue builds go to exactly the addresses of the zone's member luminaire windows, each on its
window's segment with the fixture level of its trim, in ascending order (R65, R66); so do those of a damper issue with the member
damper windows (R68); and the two together are at most 64 (R65). That the issues offer these commands is
IssuesChangeOnlyQueuesAndTheirZone. -/
def Obligations.IssuesReachEveryActuator : Prop :=
  ∀ (b : Bank) (z level fade position : Nat), b.Valid → 1 ≤ z → z ≤ 255 →
    (∀ n c, (n, c) ∈ levelCommands b.windows z level fade ↔
        ∃ w ∈ b.windows, w.translate = true ∧ w.role = .luminaire ∧ w.zone = z ∧ n = w.segment
          ∧ w.low ≤ c.destination ∧ c.destination ≤ w.high ∧ c.kind = .level ∧ c.value = fixtureLevel level w.trim
          ∧ c.fade = fade ∧ c.zone = z)
      ∧ (∀ n c, (n, c) ∈ damperCommands b.windows z position ↔
        ∃ w ∈ b.windows, w.translate = true ∧ w.role = .damper ∧ w.zone = z ∧ n = w.segment
          ∧ w.low ≤ c.destination ∧ c.destination ≤ w.high ∧ c.kind = .damper ∧ c.value = position ∧ c.fade = 0
          ∧ c.zone = z)
      ∧ ((levelCommands b.windows z level fade).map fun c => c.2.destination).Pairwise (· < ·)
      ∧ ((damperCommands b.windows z position).map fun c => c.2.destination).Pairwise (· < ·)
      ∧ (levelCommands b.windows z level fade).length + (damperCommands b.windows z position).length ≤ 64

/-! ## Formats -/

/-- A field frame is nine bytes in the layout of Table 1-2 (R1, R2), the last two the check of the first seven. The check is R2's:
the register is preset to all ones, each bit of each byte, most significant first, shifts it left once, and 1021 hexadecimal, the
generator, is added where that bit and the bit shifted out differ; over the nine ASCII bytes of "123456789" it is 29B1. The nine
bytes of every frame a field device may send are received as that frame (R5). -/
def Obligations.FieldFramesRoundTrip : Prop :=
  (∀ f : FieldFrame, f.destination = 0 → (f.kind = 1 ∨ f.kind = 2) → 1 ≤ f.source.toNat → f.source.toNat ≤ 4000 →
    f.wire.length = 9 ∧ receiveFrame f.wire = some f)
  ∧ (∀ f : FieldFrame,
    let destination := f.destination.toNat
    let source := f.source.toNat
    let value := f.value.toNat
    let covered :=
      [byte (destination / 16), byte (destination % 16 * 16 + f.kind.toNat), byte (source / 16),
        byte (source % 16 * 16 + f.aux.toNat), f.point, byte (value / 256), byte value]
    let check := (crc16 covered).toNat
    f.wire = covered ++ [byte (check / 256), byte check])
  ∧ (∀ bytes : List Byte,
    let bits := fun b : Byte => [7, 6, 5, 4, 3, 2, 1, 0].map fun i => b.getLsbD i
    let shift := fun (r : BitVec 16) (bit : Bool) => if r.getLsbD 15 = bit then r <<< 1 else (r <<< 1) ^^^ 0x1021#16
    crc16 bytes = (bytes.flatMap bits).foldl shift 0xFFFF#16)
  ∧ crc16 [0x31, 0x32, 0x33, 0x34, 0x35, 0x36, 0x37, 0x38, 0x39] = 0x29B1#16

/-- The bytes of a trunk frame lie as Table 11-1 gives, its check over every byte before it, and those of every frame of a kind of
Table 11-2 with a body of at most 240 bytes are received as that frame (R175). -/
def Obligations.TrunkFramesRoundTrip : Prop :=
  ∀ f : TrunkFrame, f.body.length ≤ 240 → 1 ≤ f.kind.toNat → f.kind.toNat ≤ 7 →
    f.wire.length = 7 + f.body.length ∧ receiveTrunk f.wire = some f
      ∧ (let covered := [f.destination, f.source, f.kind, f.tag, byte f.body.length] ++ f.body
         let check := (crc16 covered).toNat
         f.wire = covered ++ [byte (check / 256), byte check])

/-- A window, a zone record and a classifier entry in range is stored from its own bytes as it stands, with no correction; and
from any bytes of its size each field is stored as received, or as the nearest value of its range, with the high of a window at
least its low, a role code above 5 as OTHER, a class code above 10 as IGNORE and a scale code above 1 as ×10, and a correction is
recorded exactly when a field was changed (R22, R36, R58, Table 11-7). -/
def Obligations.StoredRecordsReadBack : Prop :=
  (∀ w : Window, w.InRange → w.bytes.length = 10 ∧ storeWindow w.bytes = some (w, false))
    ∧ (∀ r : ZoneRecord, r.InRange → r.bytes.length = 18 ∧ storeZone r.bytes = some (r, false))
    ∧ (∀ e : ClassifierEntry, e.bytes.length = 11 ∧ storeEntry e.bytes = some (e, false))
    ∧ (∀ l1 l0 h1 h0 segment zone role trim weight attributes : Byte,
      let low := l1.toNat * 256 + l0.toNat
      let high := h1.toNat * 256 + h0.toNat
      ∃ (w : Window) (corrected : Bool),
        storeWindow [l1, l0, h1, h0, segment, zone, role, trim, weight, attributes] = some (w, corrected)
          ∧ w.low = max 1 (min low 4000) ∧ w.high = max w.low (max 1 (min high 4000))
          ∧ w.segment = max 1 (min segment.toNat 4) ∧ w.zone = zone.toNat ∧ w.role.code = min role.toNat 5
          ∧ w.trim = max 50 (min trim.toNat 100) ∧ w.weight = max 1 (min weight.toNat 15)
          ∧ w.translate = attributes.getLsbD 0 ∧ w.forward = attributes.getLsbD 1 ∧ w.station = attributes.getLsbD 2
          ∧ w.supervise = attributes.getLsbD 3 ∧ w.pin = attributes.getLsbD 4
          ∧ (corrected = true ↔
            w.low ≠ low ∨ w.high ≠ high ∨ w.segment ≠ segment.toNat ∨ w.role.code ≠ role.toNat ∨ w.trim ≠ trim.toNat
              ∨ w.weight ≠ weight.toNat))
    ∧ (∀ flags on1 on0 min1 min0 step hold gt1 gt0 gp c1 c0 s1 s0 nf rf sp1 sp0 : Byte,
      let two := fun b c : Byte => b.toNat * 256 + c.toNat
      ∃ (r : ZoneRecord) (corrected : Bool),
        storeZone [flags, on1, on0, min1, min0, step, hold, gt1, gt0, gp, c1, c0, s1, s0, nf, rf, sp1, sp0]
            = some (r, corrected)
          ∧ r.present = flags.getLsbD 0 ∧ r.autoOn = flags.getLsbD 1 ∧ r.reportOnChange = flags.getLsbD 2
          ∧ r.onLevel = max 1 (min (two on1 on0) 1000) ∧ r.minOn = max 1 (min (two min1 min0) 1000)
          ∧ r.step = max 10 (min step.toNat 200) ∧ r.holdTime = max 1 (min hold.toNat 120)
          ∧ r.graceTime = min (two gt1 gt0) 300 ∧ r.gracePercent = min gp.toNat 100
          ∧ r.comfort = max 1000 (min (two c1 c0) 3500) ∧ r.setback = max 1000 (min (two s1 s0) 3500)
          ∧ r.normalFade = min nf.toNat 15 ∧ r.rezoneFade = min rf.toNat 15 ∧ r.spreadAlarm = min (two sp1 sp0) 1000
          ∧ (corrected = true ↔
            r.onLevel ≠ two on1 on0 ∨ r.minOn ≠ two min1 min0 ∨ r.step ≠ step.toNat ∨ r.holdTime ≠ hold.toNat
              ∨ r.graceTime ≠ two gt1 gt0 ∨ r.gracePercent ≠ gp.toNat ∨ r.comfort ≠ two c1 c0 ∨ r.setback ≠ two s1 s0
              ∨ r.normalFade ≠ nf.toNat ∨ r.rezoneFade ≠ rf.toNat ∨ r.spreadAlarm ≠ two sp1 sp0))
    ∧ ∀ present kp km pp pm vp1 vp0 vm1 vm0 cls scale : Byte,
      ∃ (e : ClassifierEntry) (corrected : Bool),
        storeEntry [present, kp, km, pp, pm, vp1, vp0, vm1, vm0, cls, scale] = some (e, corrected)
          ∧ (e.present = true ↔ present ≠ 0) ∧ e.kindPattern.toNat = kp.toNat % 16 ∧ e.kindMask.toNat = km.toNat % 16
          ∧ e.pointPattern = pp ∧ e.pointMask = pm ∧ e.valuePattern.toNat = vp1.toNat * 256 + vp0.toNat
          ∧ e.valueMask.toNat = vm1.toNat * 256 + vm0.toNat
          ∧ e.cls.code = (if cls.toNat ≤ 10 then cls.toNat else FrameClass.ignore.code) ∧ (e.timesTen = true ↔ scale ≠ 0)
          ∧ (corrected = true ↔ 10 < cls.toNat ∨ 1 < scale.toNat)

/-! ## Segment Ports and Egress Arbiters -/

/-- The first byte on an idle line makes it busy (R4); a transmit completion frees the transmitter (R122); and a segment whose
silence has reached the limit becomes DOWN, with SEGMENT_DOWN reported for it (R17). Each leaves every other segment as it was.
The silence is the 32-bit difference of device time and arrival second (log entry 12). -/
def Obligations.LineStartsEndsAndFallsSilent : Prop :=
  ∀ (s : State) (n : Nat), s.resetLow = false → 1 ≤ n → n ≤ 4 →
    ((s.segment n).receiving = false → (s.segment n).transmitting = none →
      exec (.receptionStart n) s = .next (s.setSegment n { s.segment n with receiving := true }))
    ∧ exec (.transmitCompletion n) s = .next (s.setSegment n { s.segment n with transmitting := none })
    ∧ (∀ second, (s.segment n).line = .up → (s.segment n).lastArrival = some second →
      s.settings.silenceLimit ≤ (s.deviceTime - second).toNat →
      exec (.segmentSilenceExpiry n) s =
        .next (report .segmentDown (some n) (s.setSegment n { s.segment n with line := .down })))
    ∧ ∀ g, (s.setSegment n g).segment n = g ∧ ∀ m, m ≠ n → (s.setSegment n g).segment m = s.segment m

/-- A burst that is not nine bytes, or fails its check, or carries a kind, source or destination that no device sends, is counted
as malformed and reported for its segment, and changes nothing else (R5). -/
def Obligations.MalformedBurstIsCountedAndDropped : Prop :=
  ∀ (s : State) (n : Nat) (bytes : List Byte), s.resetLow = false → 1 ≤ n → n ≤ 4 → (s.segment n).receiving = true →
    (bytes.length ≠ 9 ∨ ∃ b0 b1 b2 b3 b4 b5 b6 b7 b8, bytes = [b0, b1, b2, b3, b4, b5, b6, b7, b8]
      ∧ ([b7, b8] ≠ checkBytes [b0, b1, b2, b3, b4, b5, b6]
        ∨ ((frameOf b0 b1 b2 b3 b4 b5 b6).kind ≠ 1 ∧ (frameOf b0 b1 b2 b3 b4 b5 b6).kind ≠ 2)
        ∨ (frameOf b0 b1 b2 b3 b4 b5 b6).source = 0 ∨ 4001 ≤ (frameOf b0 b1 b2 b3 b4 b5 b6).source.toNat
        ∨ (frameOf b0 b1 b2 b3 b4 b5 b6).destination ≠ 0)) →
    exec (.receptionCompletion n bytes) s =
      .next (report .malformedFrame (some n)
        (s.setSegment n
          { s.segment n with receiving := false, malformed := advanceCount (s.segment n).malformed }))

/-- A valid frame is counted, restarts the silence, makes a DOWN segment UP with SEGMENT_UP, and joins a queue that has room, with
a HOLD when it raises a RELEASED queue to 64; at a full queue it is dropped, counted and reported (R6, R9, R13, R16). -/
def Obligations.ValidFrameArrives : Prop :=
  ∀ (s : State) (n : Nat) (f : FieldFrame), s.resetLow = false → 1 ≤ n → n ≤ 4 → (s.segment n).receiving = true →
    f.destination = 0 → (f.kind = 1 ∨ f.kind = 2) → 1 ≤ f.source.toNat → f.source.toNat ≤ 4000 →
    ∃ t, exec (.receptionCompletion n f.wire) s = .next t
      ∧ (let g := s.segment n
         let room := g.ingress.length < 128
         let rises := g.ingress.length = 63 ∧ g.hold = .released
         t.segment n =
           { g with
             receiving := false
             received := advanceCount g.received
             lastArrival := some s.deviceTime
             line := .up
             ingress := if room then g.ingress ++ [{ frame := f, segment := n, second := s.deviceTime }] else g.ingress
             overflow := if room then g.overflow else advanceCount g.overflow
             hold := if rises then .held else g.hold
             control := if rises then some .hold else g.control }
         ∧ t.notice .segmentUp =
           (if g.line = .down then (s.notice .segmentUp).reported (some n) else s.notice .segmentUp)
         ∧ t.notice .ingressOverflow =
           (if room then s.notice .ingressOverflow else (s.notice .ingressOverflow).reported (some n)))
      ∧ (∀ m, m ≠ n → t.segment m = s.segment m)
      ∧ (∀ c, c ≠ .segmentUp → c ≠ .ingressOverflow → t.notice c = s.notice c)
      ∧ t.uplink = { s.uplink with notices := t.uplink.notices }
      ∧ t = { s with segments := t.segments, notices := t.notices, uplink := t.uplink }

/-- A free arbiter on an idle line starts the pending control frame first; else the head of the only queue that holds entries;
else the station entry when the burst count has reached the allowance, and the command otherwise (R120). The burst count follows
R121. The bytes sent lie as Table 1-2 gives, with the fields of Table 1-3 in the frames the part builds: a LEVEL or DAMPER goes to
the entry's destination with its value at point 0x01 or 0x02, a LEVEL with the entry's fade code as aux and a DAMPER with 0, and a
HOLD or RELEASE goes to all devices; a delivered frame keeps the fields the station supplied (R3, R66, R68). What crc16 is stands
in FieldFramesRoundTrip. -/
def Obligations.ArbiterChoosesControlThenByBurst : Prop :=
  ∀ (s : State) (n : Nat), s.CommandLaw → s.resetLow = false → 1 ≤ n → n ≤ 4 → (s.segment n).transmitting = none →
    (s.segment n).receiving = false →
    let line := fun destination kind source aux point value : Nat =>
      let covered :=
        [byte (destination / 16), byte (destination % 16 * 16 + kind), byte (source / 16), byte (source % 16 * 16 + aux),
          byte point, byte (value / 256), byte value]
      let check := (crc16 covered).toNat
      some (covered ++ [byte (check / 256), byte check])
    let control := fun c : ControlFrame =>
      match c with
      | .hold => line 4095 4 4095 0 0 0
      | .release => line 4095 5 4095 0 0 0
    let command := fun c : CommandEntry =>
      match c.kind with
      | .level => line c.destination 3 4095 c.fade 1 c.value
      | .damper => line c.destination 3 4095 0 2 c.value
    let delivered := fun f : FieldFrame =>
      line f.destination.toNat f.kind.toNat f.source.toNat f.aux.toNat f.point.toNat f.value.toNat
    (∀ c, (s.segment n).control = some c →
      exec (.transmissionStart n) s =
        .next (s.setSegment n { s.segment n with control := none, transmitting := control c }))
    ∧ (∀ c cs, (s.segment n).control = none → (s.segment n).commands = c :: cs → (s.segment n).stations = [] →
      exec (.transmissionStart n) s =
        .next (s.setSegment n { s.segment n with commands := cs, burst := 0, transmitting := command c }))
    ∧ (∀ f fs, (s.segment n).control = none → (s.segment n).stations = f :: fs →
      (s.segment n).commands = [] ∨ s.settings.burstAllowance ≤ (s.segment n).burst →
      exec (.transmissionStart n) s =
        .next (s.setSegment n { s.segment n with stations := fs, burst := 0, transmitting := delivered f }))
    ∧ (∀ c cs, (s.segment n).control = none → (s.segment n).commands = c :: cs → (s.segment n).stations ≠ [] →
      (s.segment n).burst < s.settings.burstAllowance →
      exec (.transmissionStart n) s =
        .next (s.setSegment n
          { s.segment n with commands := cs, burst := (s.segment n).burst + 1, transmitting := command c }))

/-- A take serves the first segment, cyclically from the pointer, whose queue holds a record: its head record leaves, the pointer
moves to the segment after, and a HELD queue that falls to 32 without forced hold becomes RELEASED with a RELEASE (R10, R13). -/
def Obligations.TakeServesFromPointer : Prop :=
  ∀ (s : State) (k n : Nat) (r : IngressRecord) (rest : List IngressRecord), s.resetLow = false → s.loading = false →
    s.engine.gateOpen = true → s.engine.current = none → 1 ≤ s.engine.pointer → k < 4 →
    n = (s.engine.pointer - 1 + k) % 4 + 1 → (s.segment n).ingress = r :: rest →
    (∀ j, j < k → (s.segment ((s.engine.pointer - 1 + j) % 4 + 1)).ingress = []) →
    ∃ t, exec .take s = .next t
      ∧ (let falls := rest.length = 32 ∧ (s.segment n).hold = .held ∧ s.forcedHold n = false
         t.segment n =
           { s.segment n with
             ingress := rest
             hold := if falls then .released else (s.segment n).hold
             control := if falls then some .release else (s.segment n).control })
      ∧ (∀ m, m ≠ n → t.segment m = s.segment m)
      ∧ t.engine =
        { s.engine with
          pointer := n % 4 + 1
          current :=
            some { record := r, closedFloor := s.settings.closedFloor, rehearsed := decide (s.staging = .rehearsing) } }
      ∧ t = { s with segments := t.segments, engine := t.engine }

/-! ## Commands to the floor -/

/-- An offered command replaces the waiting entry of its destination and kind in place, or joins a queue of fewer than 96 entries
at the tail, or is dropped: then COMMAND_OVERFLOW is reported for the segment and the originating zone is marked output-incomplete
(R71, R117). -/
def Obligations.OfferedCommandCoalescesAppendsOrDrops : Prop :=
  ∀ (s : State) (n : Nat) (c : CommandEntry), 1 ≤ n → n ≤ 4 → 1 ≤ c.zone → c.zone ≤ 255 →
    ((∃ x ∈ (s.segment n).commands, x.destination = c.destination ∧ x.kind = c.kind) →
      offerCommand n c s =
        s.setSegment n
          { s.segment n with
            commands :=
              (s.segment n).commands.map fun x =>
                if x.destination = c.destination ∧ x.kind = c.kind then c else x })
    ∧ ((∀ x ∈ (s.segment n).commands, ¬(x.destination = c.destination ∧ x.kind = c.kind)) →
      ((s.segment n).commands.length < 96 →
        offerCommand n c s = s.setSegment n { s.segment n with commands := (s.segment n).commands ++ [c] })
      ∧ (96 ≤ (s.segment n).commands.length →
        offerCommand n c s =
          (report .commandOverflow (some n) s).setZone c.zone { s.zone c.zone with outputIncomplete := true }
        ∧ ((offerCommand n c s).zone c.zone).outputIncomplete = true
        ∧ ∀ y, y ≠ c.zone → (offerCommand n c s).zone y = s.zone y))

/-- A level issue of a zone offers its commands one by one in list order, each to the queue of its target's segment, and a damper
issue does so with its own when the zone's last damper position is known and offers none when it is absent (R65, R68, R71). An
issue changes nothing but the command queues, the output-incomplete flag of its zone, and the record and notice of
COMMAND_OVERFLOW. -/
def Obligations.IssuesChangeOnlyQueuesAndTheirZone : Prop :=
  (∀ (s : State) (z fade : Nat),
    let offered := fun commands : List (Nat × CommandEntry) => commands.foldl (fun u c => offerCommand c.1 c.2 u) s
    levelIssue z fade s = offered (levelCommands s.active.windows z (s.zone z).level fade)
      ∧ (∀ p, (s.zone z).damper = some p → damperIssue z s = offered (damperCommands s.active.windows z p))
      ∧ ((s.zone z).damper = none → damperIssue z s = s))
  ∧ ∀ (s t : State) (z fade : Nat), t = levelIssue z fade s ∨ t = damperIssue z s →
    t = { s with segments := t.segments, notices := t.notices, uplink := t.uplink, zones := t.zones }
      ∧ (∀ n, t.segment n = { s.segment n with commands := (t.segment n).commands })
      ∧ (∀ y, y ≠ z → t.zone y = s.zone y)
      ∧ t.zone z = { s.zone z with outputIncomplete := (t.zone z).outputIncomplete }
      ∧ ((s.zone z).outputIncomplete = true → (t.zone z).outputIncomplete = true)
      ∧ (∀ c, c ≠ .commandOverflow → t.notice c = s.notice c)
      ∧ t.uplink = { s.uplink with notices := t.uplink.notices }

/-- The fixture level is 0 for a zone that is off and otherwise L × trim / 100 rounded half up, which is 1 to 1000 (R67); the
grace level of P is 0 for P or grace percent 0 and otherwise P × grace percent / 100 rounded half up and raised to the min-on
level, and never above P (R83). -/
def Obligations.FixtureAndGraceLevelsRound : Prop :=
  (∀ level trim, 50 ≤ trim → trim ≤ 100 →
    fixtureLevel 0 trim = 0
      ∧ (1 ≤ level → level ≤ 1000 →
        fixtureLevel level trim = (level * trim + 50) / 100 ∧ 1 ≤ fixtureLevel level trim
          ∧ fixtureLevel level trim ≤ 1000))
  ∧ ∀ (r : ZoneRecord) (p : Nat), r.InRange →
    ((p = 0 ∨ r.gracePercent = 0) → r.graceLevel p = 0)
      ∧ (r.minOn ≤ p → r.gracePercent ≠ 0 →
        r.graceLevel p = max r.minOn ((p * r.gracePercent + 50) / 100) ∧ r.minOn ≤ r.graceLevel p ∧ r.graceLevel p ≤ p)

/-! ## The Translation Engine -/

/-- An entry matches a record when it is present and, at every bit of kind, point and value where its mask has a one, record and
pattern have the same bit (R25); the winning entry is the first that matches, and a record without one is PASS (R26, R27). -/
def Obligations.MatchingFollowsTheMask : Prop :=
  (∀ (e : ClassifierEntry) (f : FieldFrame),
    e.matchesFrame f = true ↔
      e.present = true ∧ (∀ i : Nat, e.kindMask.getLsbD i = true → f.kind.getLsbD i = e.kindPattern.getLsbD i)
        ∧ (∀ i : Nat, e.pointMask.getLsbD i = true → f.point.getLsbD i = e.pointPattern.getLsbD i)
        ∧ ∀ i : Nat, e.valueMask.getLsbD i = true → f.value.getLsbD i = e.valuePattern.getLsbD i)
  ∧ ∀ (table : Vector ClassifierEntry 32) (f : FieldFrame),
    (∀ e, winningEntry table f = some e ↔
      ∃ i : Fin 32, table[i] = e ∧ e.matchesFrame f = true ∧ ∀ j : Fin 32, j < i → table[j].matchesFrame f = false)
    ∧ (∀ e, winningEntry table f = some e → classOf table f = e.cls)
    ∧ ((∀ i : Fin 32, table[i].matchesFrame f = false) → classOf table f = .pass)

/-- The record in translation completes: the engine is free again, the source is marked heard (R28, R164), and nothing changes but
what a class may reach. A listed source in the wrong segment reports MISPLACED_DEVICE (R12); a muted window ends the active part
there (R45); otherwise a miss reports CLASSIFIER_MISS (R27), an acting class of a Translate window acts when Table 2-6 accepts it
and reports ROLE_MISMATCH when it does not (R31), and PASS or Forward sends a copy up (R32, Table 2-7). PRESENCE and the keypad
and setpoint classes are events at the window's zone, with the level issue and the report an event makes (R70, R79, R94;
KeypadClassesFollowTable says what a class makes of a zone); PRESENCE, ABSENCE and the scaled reading of TEMPERATURE are written
to the point cache, an implausible reading with IMPLAUSIBLE_READING (R30, R100, R101). A record taken and still in rehearsal then
runs against the staged bank and changes the shadow alone (R33, R140). An unlisted source reports UNLISTED_SOURCE and goes up on
an open floor (R48); the order of its two notices is a free value (log entry 7), and the counter of free values is the model's
(log entry 3). -/
def Obligations.TranslationCompletes : Prop :=
  (∀ (s : State) (x : Translation), s.resetLow = false → s.engine.current = some x →
      ∃ t, exec .translationCompletion s = .next t
        ∧ t.engine = { s.engine with current := none, traceCount := t.engine.traceCount }
        ∧ (t.presence = s.presence.map fun e =>
            if e.address = x.record.frame.source.toNat then { e with heard := true } else e)
        ∧ (∀ n, t.segment n = { s.segment n with commands := (t.segment n).commands })
        ∧ t.uplink.replies = s.uplink.replies
        ∧ (¬(x.rehearsed = true ∧ s.staging = .rehearsing) →
          t.shadow = s.shadow ∧ t.engine.traceCount = s.engine.traceCount ∧ t.uplink.traces = s.uplink.traces)
        ∧ t =
          { s with
            segments := t.segments, engine := t.engine, zones := t.zones, shadow := t.shadow, cache := t.cache,
            presence := t.presence, notices := t.notices, uplink := t.uplink, freeCount := t.freeCount })
  ∧ (∀ (s : State) (x : Translation), s.Law → s.resetLow = false → s.engine.current = some x →
    let f := x.record.frame
    let a := f.source.toNat
    let c := classOf s.active.classifier f
    let missed := winningEntry s.active.classifier f = none
    let heard : State :=
      { s with presence := s.presence.map fun e => if e.address = a then { e with heard := true } else e }
    let run := fun u : State =>
      match lookup s.staged.windows a with
      | none => u
      | some v =>
        let k := classOf s.staged.classifier f
        let after := (s.shadowZone v.zone).onClass (s.stagedRecord v.zone) k
        if v.translate = true ∧ v.role.accepts k = true then
          let changed := u.setShadow v.zone after
          if after.level = (s.shadowZone v.zone).level then changed
          else
            (levelCommands s.staged.windows v.zone after.level (s.stagedRecord v.zone).normalFade).foldl
              (fun y m => shadowCommand (((lookup s.active.windows a).map Window.zone).getD 0) m.2 y) changed
        else u
    let completes := fun u : State =>
      let y := if x.rehearsed = true ∧ s.staging = .rehearsing then run u else u
      exec .translationCompletion s = .next { y with engine := { y.engine with current := none } }
    (∀ w, lookup s.active.windows a = some w →
      let placed := if w.segment = x.record.segment then heard else report .misplacedDevice (some a) heard
      let classified := if missed then report .classifierMiss (some a) placed else placed
      let scale : Int := if ((winningEntry s.active.classifier f).map ClassifierEntry.timesTen).getD false then 10 else 1
      let cached := fun (last : Report) (u : State) =>
        let v : State := { u with cache := writeCache u.cache a w.role last x.record.second }
        match last with
        | .presence => v
        | .absence => v
        | .reading t => if 0 ≤ t ∧ t ≤ 5000 then v else report .implausibleReading (some a) v
      let reached := classified.afterEvent w.zone ((s.zone w.zone).onClass (s.record w.zone) c)
      let acted :=
        if w.translate = false ∨ c = .pass ∨ c = .ignore then classified
        else if w.role.accepts c = false then report .roleMismatch (some a) classified
        else if c = .presence then cached .presence reached
        else if c = .absence then cached .absence classified
        else if c = .temperature then cached (.reading (max (-4000) (min 8500 (f.value.toInt * scale)))) classified
        else reached
      (w.translate = false → w.forward = false → completes placed)
        ∧ (w.translate = true ∨ w.forward = true →
          completes
            (if c = .pass ∨ w.forward = true then
               offerForward { segment := x.record.segment, zone := w.zone, cls := c, frame := f } acted
             else acted)))
    ∧ (lookup s.active.windows a = none →
      ∃ u : State,
        completes
            (if x.closedFloor then u
             else offerForward { segment := x.record.segment, zone := 0, cls := c, frame := f } u)
          ∧ (¬missed → u = report .unlistedSource (some a) heard)
          ∧ (missed →
            let drawn : State := { heard with freeCount := s.freeCount + 1 }
            u = report .unlistedSource (some a) (report .classifierMiss (some a) drawn)
              ∨ u = report .classifierMiss (some a) (report .unlistedSource (some a) drawn))))
  ∧ (∀ (role : Role) (c : FrameClass),
    role.accepts c = true ↔
      (role = .occupancySensor ∧ (c = .presence ∨ c = .absence)) ∨ (role = .temperatureSensor ∧ c = .temperature)
        ∨ (role = .keypad
          ∧ (c = .keyOn ∨ c = .keyOff ∨ c = .keyRaise ∨ c = .keyLower ∨ c = .setWarmer ∨ c = .setCooler)))
  ∧ (∀ (cache : List CacheEntry) (a : Nat) (role : Role) (last : Report) (second : Second),
    (cache.map CacheEntry.address).Pairwise (· < ·) →
    let kept := writeCache cache a role last second
    let implausible := match last with | .presence => false | .absence => false | .reading t => decide (t < 0 ∨ 5000 < t)
    (kept.map CacheEntry.address).Pairwise (· < ·)
      ∧ (∀ e, cacheEntry cache a = some e →
        cacheEntry kept a = some { address := a, role := e.role, last, second, implausible })
      ∧ (cacheEntry cache a = none → cacheEntry kept a = some { address := a, role, last, second, implausible })
      ∧ ∀ b, b ≠ a → cacheEntry kept b = cacheEntry cache b)
  ∧ ∀ (s : State) (u : FieldUp),
    let room := s.link = .up ∧ s.uplink.forwards.length < 128
    (room → offerForward u s = { s with uplink := { s.uplink with forwards := s.uplink.forwards ++ [u] } })
      ∧ (¬room →
        offerForward u s =
          { s with uplink := { s.uplink with forwardDiscards := advanceCount s.uplink.forwardDiscards } })

/-- A PRESENCE from a member occupancy sensor restarts the hold of an OCCUPIED zone and leaves its level, lights a VACANT zone at
its on level when auto-on is set and leaves it dark otherwise, and returns a zone in GRACE to its pre-grace level (R87); a level
issue follows when L changed and a report when the state changed and the zone reports on change (R70, R94); the sensor's cache
entry takes PRESENCE with the record's arrival second (R100). -/
def Obligations.PresenceActsOnItsZone : Prop :=
  ∀ (s : State) (x : Translation) (w : Window), s.Law → s.resetLow = false → s.engine.current = some x →
    s.staging ≠ .rehearsing → lookup s.active.windows x.record.frame.source.toNat = some w → w.translate = true →
    w.role = .occupancySensor → classOf s.active.classifier x.record.frame = .presence →
    ∃ t, exec .translationCompletion s = .next t
      ∧ (let z := s.zone w.zone
         let r := s.record w.zone
         (t.zone w.zone).SameButFlags
           { z with
             occupancy := .occupied
             hold := r.holdTime * 60
             expiring := false
             level :=
               match z.occupancy with
               | .vacant => if r.autoOn then r.onLevel else 0
               | .occupied => z.level
               | .grace => z.preGrace })
      ∧ (w.segment = x.record.segment → w.forward = false →
        let z := s.zone w.zone
        let r := s.record w.zone
        t =
          { s.afterEvent w.zone
              { z with
                occupancy := .occupied
                hold := r.holdTime * 60
                expiring := false
                level :=
                  match z.occupancy with
                  | .vacant => if r.autoOn then r.onLevel else 0
                  | .occupied => z.level
                  | .grace => z.preGrace } with
            engine := { s.engine with current := none }
            presence :=
              s.presence.map fun e =>
                if e.address = x.record.frame.source.toNat then { e with heard := true } else e
            cache := t.cache })
      ∧ (∀ y, y ≠ w.zone → t.zone y = s.zone y)
      ∧ (∃ e, cacheEntry t.cache x.record.frame.source.toNat = some e ∧ e.role = .occupancySensor ∧ e.last = .presence
        ∧ e.second = x.record.second ∧ e.implausible = false)
      ∧ ∀ a, a ≠ x.record.frame.source.toNat → cacheEntry t.cache a = cacheEntry s.cache a

/-- The classes act by Table 5-1. A PRESENCE lights a VACANT zone at its on level when auto-on is set and leaves it dark
otherwise, restarts the hold of an OCCUPIED zone, and returns a zone in GRACE to its pre-grace level (R87). The keypad and
setpoint classes act on a VACANT zone (R90), on an OCCUPIED zone (R91, R92), and on a zone in GRACE after its return to OCCUPIED
at the pre-grace level (R93); ABSENCE changes nothing (R88), and TEMPERATURE, PASS and IGNORE do not reach the machine (R79). How
a class of a record reaches its zone is TranslationCompletes. -/
def Obligations.KeypadClassesFollowTable : Prop :=
  ∀ (z : ZoneState) (r : ZoneRecord), r.InRange → r.minOn ≤ r.onLevel → z.LevelLaw r →
    z.onClass r .presence =
        { z with
          occupancy := .occupied
          hold := r.holdTime * 60
          expiring := false
          level :=
            match z.occupancy with
            | .vacant => if r.autoOn then r.onLevel else 0
            | .occupied => z.level
            | .grace => z.preGrace }
    ∧ (∀ c, c = .absence ∨ c = .temperature ∨ c = .pass ∨ c = .ignore → z.onClass r c = z)
    ∧ (z.occupancy = .vacant →
      let u : ZoneState := { z with occupancy := .occupied, hold := r.holdTime * 60, expiring := false }
      z.onClass r .keyOn = { u with level := r.onLevel } ∧ z.onClass r .keyOff = z
        ∧ z.onClass r .keyRaise = { u with level := r.minOn } ∧ z.onClass r .keyLower = u
        ∧ z.onClass r .setWarmer = { u with offset := 50 } ∧ z.onClass r .setCooler = { u with offset := -50 })
    ∧ (z.occupancy ≠ .vacant →
      let u : ZoneState :=
        if z.occupancy = .grace then
          { z with occupancy := .occupied, hold := r.holdTime * 60, expiring := false, level := z.preGrace }
        else z
      z.onClass r .keyOn = { u with level := r.onLevel } ∧ z.onClass r .keyOff = { u with level := 0 }
        ∧ z.onClass r .keyRaise = { u with level := if u.level = 0 then r.minOn else min (u.level + r.step) 1000 }
        ∧ z.onClass r .keyLower = { u with level := if u.level = 0 then 0 else max (u.level - r.step) r.minOn }
        ∧ z.onClass r .setWarmer = { u with offset := min 300 (u.offset + 50) }
        ∧ z.onClass r .setCooler = { u with offset := max (-300) (u.offset - 50) })

/-- A record from an unlisted source reports UNLISTED_SOURCE and goes up once with zone 0 on an open floor and not at all on a
closed one, by the setting at its take (R48); a record from a muted window is heard and checked for misplacement and has no other
effect (R45). Neither reaches a zone, the point cache or a command queue. The order of two notices of one unlisted record is the
model's free value (log entry 7). -/
def Obligations.UnlistedAndMutedReachNoZone : Prop :=
  ∀ (s : State) (x : Translation), s.resetLow = false → s.engine.current = some x → s.staging ≠ .rehearsing →
    let a := x.record.frame.source.toNat
    (lookup s.active.windows a = none →
      ∃ t, exec .translationCompletion s = .next t
        ∧ t.notice .unlistedSource = (s.notice .unlistedSource).reported (some a)
        ∧ t.notice .classifierMiss =
          (if winningEntry s.active.classifier x.record.frame = none then (s.notice .classifierMiss).reported (some a)
           else s.notice .classifierMiss)
        ∧ (∀ c, c ≠ .unlistedSource → c ≠ .classifierMiss → t.notice c = s.notice c)
        ∧ (let goes := x.closedFloor = false ∧ s.link = .up ∧ s.uplink.forwards.length < 128
           let lost := x.closedFloor = false ∧ ¬(s.link = .up ∧ s.uplink.forwards.length < 128)
           t.uplink =
             { s.uplink with
               notices := t.uplink.notices
               forwards :=
                 if goes then
                   s.uplink.forwards
                     ++ [{ segment := x.record.segment, zone := 0,
                           cls := classOf s.active.classifier x.record.frame, frame := x.record.frame }]
                 else s.uplink.forwards
               forwardDiscards :=
                 if lost then advanceCount s.uplink.forwardDiscards else s.uplink.forwardDiscards })
        ∧ t =
          { s with
            engine := { s.engine with current := none }, presence := t.presence, notices := t.notices,
            uplink := t.uplink, freeCount := t.freeCount })
    ∧ ∀ w, lookup s.active.windows a = some w → w.translate = false → w.forward = false →
      exec .translationCompletion s =
        .next
          (let u : State :=
            { s with
              engine := { s.engine with current := none }
              presence := s.presence.map fun e => if e.address = a then { e with heard := true } else e }
           if w.segment = x.record.segment then u else report .misplacedDevice (some a) u)

/-! ## Timers -/

/-- At a hold expiry a zone with fresh presence restarts its hold and changes nothing else; without it the zone enters GRACE at
the grace level of its level when its grace time is not 0, and VACANT when it is 0 (R81, R82). At a grace expiry the zone enters
VACANT (R84). The timer that expired is then at 0, a level issue follows when L changed (R70), and a report of the zone when it
reports on change (R94): the report holds the zone's fields at that moment, stands in place of a waiting one of its zone or at the
tail, and sets the report-pending flag (R113, R114, R124). An age is a 32-bit difference (log entry 12), and an expiry is due from
the second that takes its timer from 1 to 0 (log entry 13). -/
def Obligations.ZoneTimersExpire : Prop :=
  (∀ (s : State) (z : Nat), s.Law → s.resetLow = false → (s.zone z).frozen = false → (s.zone z).expiring = true →
    let r := s.record z
    let vacated : ZoneState := { s.zone z with occupancy := .vacant, level := 0, offset := 0, expiring := false }
    let fresh :=
      ∃ w ∈ s.active.windows, w.translate = true ∧ w.role = .occupancySensor ∧ w.zone = z
        ∧ ∃ e ∈ s.cache, w.low ≤ e.address ∧ e.address ≤ w.high ∧ e.last = .presence
          ∧ (s.deviceTime - e.second).toNat ≤ s.settings.staleLimit
    let becomes := fun (command : Instr) (after : ZoneState) =>
      ∃ t, exec command s = .next t
        ∧ t = s.afterEvent z after
        ∧ (t.zone z).SameButFlags after
        ∧ (∀ y, y ≠ z → t.zone y = s.zone y)
        ∧ (∀ n, t.segment n = { s.segment n with commands := (t.segment n).commands })
        ∧ t = { s with segments := t.segments, notices := t.notices, uplink := t.uplink, zones := t.zones }
    ((s.zone z).occupancy = .occupied → fresh →
      exec (.holdExpiry z) s = .next (s.setZone z { s.zone z with hold := r.holdTime * 60, expiring := false }))
    ∧ ((s.zone z).occupancy = .occupied → ¬fresh →
      becomes (.holdExpiry z)
        (if r.graceTime = 0 then { vacated with hold := 0 }
         else
           { s.zone z with
             occupancy := .grace, hold := 0, preGrace := (s.zone z).level, level := r.graceLevel (s.zone z).level
             grace := r.graceTime, expiring := false }))
    ∧ ((s.zone z).occupancy = .grace → becomes (.graceExpiry z) { vacated with grace := 0 }))
  ∧ ∀ (s : State) (z : Nat), 1 ≤ z → z ≤ 255 →
    let v := s.zone z
    let r := s.record z
    let formed : ZoneReport :=
      { zone := z, generation := s.generation, sweep := s.sweep.number, occupancy := v.occupancy, level := v.level
        status := v.status, temperature := v.temperature, count := v.count, spread := v.spread
        spreadAlarm := decide (r.spreadAlarm ≠ 0 ∧ r.spreadAlarm < v.spread)
        setpoint := v.setpoint r, offset := v.offset, damper := v.damper, outputIncomplete := v.outputIncomplete }
    let queued := fun reports : List ZoneReport =>
      { s.setZone z { v with reportPending := true } with uplink := { s.uplink with reports := reports } }
    ((∃ x ∈ s.uplink.reports, x.zone = z) →
      queueReport z s = queued (s.uplink.reports.map fun x => if x.zone = z then formed else x))
    ∧ ((∀ x ∈ s.uplink.reports, x.zone ≠ z) → queueReport z s = queued (s.uplink.reports ++ [formed]))

/-- The expiry of a shadow hold or grace changes the shadow record as the same expiry changes a runtime record, with the staged
record and list, and nothing else but the trace count and the trace queue (R98, R141, R142). When L changed, one shadow command is
counted for each LEVEL target of the staged list, with source zone 0 (R73, R141): a count that reaches the prescale becomes 0 and
the command is traced, which joins a trace queue of fewer than 64 entries on an UP trunk and is discarded and counted otherwise
(R142). An age is a 32-bit difference (log entry 12), and an expiry is due from the second that takes its timer from 1 to 0 (log
entry 13). -/
def Obligations.ShadowTimersTouchOnlyTheShadow : Prop :=
  (∀ (s : State) (z : Nat), s.resetLow = false → s.staging = .rehearsing → 1 ≤ z → z ≤ 255 →
    (s.shadowZone z).expiring = true →
    let vacated : ZoneState := { s.shadowZone z with occupancy := .vacant, level := 0, offset := 0, expiring := false }
    let becomes := fun (command : Instr) (after : ZoneState) =>
      let changed := s.setShadow z after
      ∃ t, exec command s = .next t
        ∧ t =
          (if after.level = (s.shadowZone z).level then changed
           else
             (levelCommands s.staged.windows z after.level (s.stagedRecord z).normalFade).foldl
               (fun u c => shadowCommand 0 c.2 u) changed)
        ∧ t.shadowZone z = after
        ∧ (∀ y, y ≠ z → t.shadowZone y = s.shadowZone y)
        ∧ t.engine = { s.engine with traceCount := t.engine.traceCount }
        ∧ t.uplink = { s.uplink with traces := t.uplink.traces, traceDiscards := t.uplink.traceDiscards }
        ∧ t = { s with shadow := t.shadow, engine := t.engine, uplink := t.uplink }
    ((s.shadowZone z).occupancy = .occupied →
      let r := s.stagedRecord z
      let after := (s.shadowZone z).onHoldExpiry r (s.freshPresence s.staged.windows z)
      let fresh :=
        ∃ w ∈ s.staged.windows, w.translate = true ∧ w.role = .occupancySensor ∧ w.zone = z
          ∧ ∃ e ∈ s.cache, w.low ≤ e.address ∧ e.address ≤ w.high ∧ e.last = .presence
            ∧ (s.deviceTime - e.second).toNat ≤ s.settings.staleLimit
      becomes (.shadowHoldExpiry z) after
        ∧ (s.Law → fresh → after = { s.shadowZone z with hold := r.holdTime * 60, expiring := false })
        ∧ (s.Law → ¬fresh →
          after =
            (if r.graceTime = 0 then { vacated with hold := 0 }
             else
               { s.shadowZone z with
                 occupancy := .grace, hold := 0, preGrace := (s.shadowZone z).level
                 level := r.graceLevel (s.shadowZone z).level, grace := r.graceTime, expiring := false })))
    ∧ ((s.shadowZone z).occupancy = .grace → becomes (.shadowGraceExpiry z) { vacated with grace := 0 }))
  ∧ ∀ (s : State) (source : Nat) (c : CommandEntry),
    let due := s.settings.tracePrescale ≤ s.engine.traceCount + 1
    let room := s.link = .up ∧ s.uplink.traces.length < 64
    let trace : Trace :=
      { stagedZone := c.zone, destination := c.destination, kind := c.kind, value := c.value, sourceZone := source }
    let counted := fun (count : Nat) (u : Uplink) => { s with engine := { s.engine with traceCount := count }, uplink := u }
    (¬due → shadowCommand source c s = counted (s.engine.traceCount + 1) s.uplink)
      ∧ (due → room → shadowCommand source c s = counted 0 { s.uplink with traces := s.uplink.traces ++ [trace] })
      ∧ (due → ¬room →
        shadowCommand source c s = counted 0 { s.uplink with traceDiscards := advanceCount s.uplink.traceDiscards })

/-- A second of device time advances the 32-bit count (R7) and counts down the hold of every OCCUPIED zone and the grace of every
zone in GRACE that is not frozen (R80, R84, R97), the shadow timers while REHEARSING (R98), and nothing else but the sweep timer,
outside the store load (R165). A timer at its last second stays there and its expiry, the event that takes it to 0, becomes due,
which is the model's choice (log entry 13). What follows 4294967295 is the model's free value (log entry 5) and not stated here. -/
def Obligations.SecondCountsTimersDown : Prop :=
  ∀ s : State, s.resetLow = false →
    let counted := fun z : ZoneState =>
      match z.occupancy with
      | .vacant => z
      | .occupied => if 2 ≤ z.hold then { z with hold := z.hold - 1 } else { z with expiring := true }
      | .grace => if 2 ≤ z.grace then { z with grace := z.grace - 1 } else { z with expiring := true }
    ∃ t, exec .deviceTimeAdvance s = .next t
      ∧ (s.deviceTime.toNat < 4294967295 → t.deviceTime.toNat = s.deviceTime.toNat + 1)
      ∧ (∀ z, t.zone z = if (s.zone z).frozen then s.zone z else counted (s.zone z))
      ∧ (s.staging ≠ .rehearsing → t.shadow = s.shadow)
      ∧ (s.staging = .rehearsing → ∀ z, (s.shadowZone z).frozen = false → t.shadowZone z = counted (s.shadowZone z))
      ∧ t.sweep = { s.sweep with elapsed := if s.loading then s.sweep.elapsed else s.sweep.elapsed + 1 }
      ∧ t =
        { s with
          deviceTime := t.deviceTime, zones := t.zones, shadow := t.shadow, sweep := t.sweep, freeCount := t.freeCount }

/-! ## The trunk -/

/-- A free trunk transmitter on an UP trunk grants the first non-empty queue of reply, notice, report, forward, trace: its head
leaves, or all notice records leave together, and the report's zone is no longer report-pending (R124, R125, R126). The frame sent
lies as Table 11-1 gives, from the part's trunk address to the station, with the tag of a reply's request and 0 otherwise (R175,
R176), and its body as Table 11-8 gives: a notice record with its class as Table 10-2 gives it, E as 0 and I as 1, and 65535 for
no scope; a report with an absent temperature as 0 and an absent damper position as 65535; a copy with bytes 0 to 6 of Table 1-2;
a trace with its command kind LEVEL as 0 and DAMPER as 1 (R184). Class codes are those of Table 2-2, and condition codes those of
Table 10-2. A trunk transmit completion frees the transmitter. What crc16 is stands in FieldFramesRoundTrip, and the codes of the
other named fields in ReadsAnswerAndChangeNothing. -/
def Obligations.UplinkGrantsByPriority : Prop :=
  (∀ s : State, s.resetLow = false →
    exec .trunkTransmitCompletion s = .next { s with trunkTransmitting := none }
    ∧ (s.trunkTransmitting = none → s.link = .up →
      let u := s.uplink
      let two := fun n : Nat => [byte (n / 256), byte n]
      let signed := fun n : Int => two (n % 65536).toNat
      let wire := fun (kind tag : Byte) (body : List Byte) =>
        let covered := [0, s.trunkAddress, kind, tag, byte body.length] ++ body
        some (covered ++ two (crc16 covered).toNat)
      let noticeBytes := fun n : NoticeRecord =>
        [byte n.condition.code, if n.condition.code ∈ [0, 3, 4, 11, 12, 17, 18, 20] then 0 else 1]
          ++ two (n.scope.getD 65535) ++ two n.counter
      let reportBytes := fun r : ZoneReport =>
        [byte r.zone] ++ two r.generation ++ two r.sweep ++ [byte r.occupancy.code] ++ two r.level ++ [byte r.status.code]
          ++ signed (r.temperature.getD 0) ++ [byte r.count] ++ two r.spread
          ++ [byte ((if r.spreadAlarm then 1 else 0) + (if r.outputIncomplete then 2 else 0))] ++ signed r.setpoint
          ++ signed r.offset ++ two (r.damper.getD 65535)
      let copyBytes := fun f : FieldUp =>
        let destination := f.frame.destination.toNat
        let source := f.frame.source.toNat
        [byte f.segment, byte f.zone, byte f.cls.code, byte (destination / 16),
            byte (destination % 16 * 16 + f.frame.kind.toNat), byte (source / 16),
            byte (source % 16 * 16 + f.frame.aux.toNat), f.frame.point]
          ++ two f.frame.value.toNat
      let traceBytes := fun t : Trace =>
        [byte t.stagedZone] ++ two t.destination ++ [match t.kind with | .level => (0 : Byte) | .damper => 1] ++ two t.value
          ++ [byte t.sourceZone]
      (∀ r rest, u.replies = r :: rest →
        exec .trunkTransmitStart s =
          .next { s with uplink := { u with replies := rest }, trunkTransmitting := wire 2 r.tag r.body })
      ∧ (u.replies = [] → u.notices ≠ [] →
        exec .trunkTransmitStart s =
          .next
            { s with
              uplink := { u with notices := [] }
              trunkTransmitting := wire 6 0 (u.notices.flatMap noticeBytes) })
      ∧ (∀ r rest, u.replies = [] → u.notices = [] → u.reports = r :: rest →
        exec .trunkTransmitStart s =
          .next
            ({ s with uplink := { u with reports := rest }, trunkTransmitting := wire 5 0 (reportBytes r) }.setZone r.zone
              { s.zone r.zone with reportPending := false }))
      ∧ (∀ f rest, u.replies = [] → u.notices = [] → u.reports = [] → u.forwards = f :: rest →
        exec .trunkTransmitStart s =
          .next { s with uplink := { u with forwards := rest }, trunkTransmitting := wire 4 0 (copyBytes f) })
      ∧ ∀ t rest, u.replies = [] → u.notices = [] → u.reports = [] → u.forwards = [] → u.traces = t :: rest →
        exec .trunkTransmitStart s =
          .next { s with uplink := { u with traces := rest }, trunkTransmitting := wire 7 0 (traceBytes t) }))
  ∧ [FrameClass.pass, .ignore, .presence, .absence, .temperature, .keyOn, .keyOff, .keyRaise, .keyLower, .setWarmer,
      .setCooler].map FrameClass.code = List.range 11
  ∧ [Condition.segmentDown, .segmentUp, .malformedFrame, .ingressOverflow, .commandOverflow, .unlistedSource,
      .misplacedDevice, .classifierMiss, .roleMismatch, .undeliverable, .implausibleReading, .reportOverrun, .deviceSilent,
      .deviceReturned, .stageRejected, .cutoverDone, .cutoverAborted, .storeFailed, .storeInvalid, .trunkRestored,
      .foreignManagement].map Condition.code = List.range 21

/-- A received burst whose length is not 7 more than its length field, whose length field exceeds 240, whose check does not agree
or whose kind is no code of Table 11-2 is discarded without effect (R175). A valid received trunk frame not addressed to the part
or to all parts is ignored. A MGMT_REQUEST of the station enters an empty request slot and is discarded at a full one; of another
source it reports FOREIGN_MANAGEMENT. A FIELD_DOWN of the station is UNDELIVERABLE during the store load, held while CUTTING, and
delivered otherwise; of another source, or with a body not of 8 bytes, it is discarded, as is every other kind (R51, R148, R176,
R178). -/
def Obligations.TrunkFramesAreFiltered : Prop :=
  (∀ (s : State) (f : TrunkFrame), s.resetLow = false → s.link = .up → f.body.length ≤ 240 → 1 ≤ f.kind.toNat →
      f.kind.toNat ≤ 7 →
      let run := exec (.trunkFrameReceived f.wire) s
      (f.destination ≠ s.trunkAddress → f.destination ≠ 255 → run = .next s)
      ∧ (f.destination = s.trunkAddress ∨ f.destination = 255 →
        (f.kind = 1 → f.source = 0 → s.slot = none →
          run = .next { s with slot := some { broadcast := decide (f.destination = 255), tag := f.tag, body := f.body } })
        ∧ (f.kind = 1 → f.source = 0 → s.slot ≠ none → run = .next s)
        ∧ (f.kind = 1 → f.source ≠ 0 → run = .next (report .foreignManagement (some f.source.toNat) s))
        ∧ (f.kind ≠ 1 → (f.kind ≠ 3 ∨ f.source ≠ 0 ∨ f.body.length ≠ 8) → run = .next s)
        ∧ ∀ b b0 b1 b2 b3 b4 b5 b6, f.kind = 3 → f.source = 0 → f.body = [b, b0, b1, b2, b3, b4, b5, b6] →
          let d : FieldDown := { selector := b.toNat, frame := frameOf b0 b1 b2 b3 b4 b5 b6 }
          let lost := report .undeliverable (some d.frame.destination.toNat) s
          run =
            .next
              (if s.loading then lost
               else if s.staging = .cutting then
                 if s.walk.held.length < 32 then { s with walk := { s.walk with held := s.walk.held ++ [d] } } else lost
               else deliver s d)))
  ∧ ∀ (s : State) (bytes : List Byte), s.resetLow = false → s.link = .up →
    (bytes.length < 7
      ∨ ∃ destination source kind tag len rest, bytes = destination :: source :: kind :: tag :: len :: rest
        ∧ (bytes.length ≠ 7 + len.toNat ∨ 240 < len.toNat
          ∨ bytes.drop (5 + len.toNat) ≠ checkBytes (bytes.take (5 + len.toNat)) ∨ kind = 0 ∨ 7 < kind.toNat)) →
    exec (.trunkFrameReceived bytes) s = .next s

/-- A FIELD_DOWN frame joins the tail of the station queue that Table 3-8 chooses, when that queue holds fewer than 32 entries,
and is otherwise UNDELIVERABLE with its destination as scope (R52, R53, R118). -/
def Obligations.DeliveryFollowsTable : Prop :=
  ∀ (s : State) (d : FieldDown), s.active.Valid →
    let a := d.frame.destination.toNat
    let sendable := (d.frame.kind = 1 ∨ d.frame.kind = 2 ∨ d.frame.kind = 3) ∧ d.selector ≤ 4
    let toAll := a = 4095 ∧ d.selector ≠ 0
    let listed := fun w : Window => w ∈ s.active.windows ∧ w.low ≤ a ∧ a ≤ w.high
    let unlisted := 1 ≤ a ∧ a ≤ 4000 ∧ ∀ w, ¬listed w
    let goes := fun n : Nat =>
      sendable
        ∧ (toAll ∧ n = d.selector
          ∨ (∃ w, listed w ∧ w.station = true ∧ n = if d.selector = 0 then w.segment else d.selector)
          ∨ unlisted ∧ d.selector ≠ 0 ∧ s.settings.closedFloor = false ∧ n = d.selector)
    (∀ n, goes n → (s.segment n).stations.length < 32 →
      deliver s d = s.setSegment n { s.segment n with stations := (s.segment n).stations ++ [d.frame] })
    ∧ ((∀ n, goes n → 32 ≤ (s.segment n).stations.length) → deliver s d = report .undeliverable (some a) s)

/-- At a trunk loss replies, notices, forwarded copies and traces are discarded, the latter two counted, reports are kept, and the
frame in transmission is lost (R127); that the transmitter is free at once is the model's reading (log entry 20, DEDUCED). At a
restoration TRUNK_RESTORED is reported, and one record waits for every condition pending and enabled, with its first scope and
counter, and no other (R172). TRUNK_RESTORED's record is first when the condition becomes pending there and is enabled; the
others, and with them TRUNK_RESTORED's when the condition was pending before, follow in ascending code order (R125, R172). -/
def Obligations.TrunkLossAndRestoration : Prop :=
  ∀ s : State, s.Law → s.resetLow = false →
    (s.link = .up →
      exec .trunkLoss s =
        .next
          { s with
            link := .down
            trunkTransmitting := none
            uplink :=
              { s.uplink with
                replies := [], notices := [], forwards := [], traces := []
                forwardDiscards := min 65535 (s.uplink.forwardDiscards + s.uplink.forwards.length)
                traceDiscards := min 65535 (s.uplink.traceDiscards + s.uplink.traces.length) } })
    ∧ (s.link = .down →
      ∃ t, exec .trunkRestoration s = .next t
        ∧ t.notice .trunkRestored = (s.notice .trunkRestored).reported none
        ∧ (∀ c, c ≠ .trunkRestored → t.notice c = s.notice c)
        ∧ (∀ r, r ∈ t.uplink.notices ↔
          ∃ c, (t.notice c).pending = true ∧ t.enabled c = true
            ∧ r = { condition := c, scope := (t.notice c).firstScope, counter := (t.notice c).counter })
        ∧ (t.uplink.notices.map NoticeRecord.condition).Nodup
        ∧ (let announced := (s.notice .trunkRestored).pending = false ∧ s.enabled .trunkRestored = true
           let record := fun c : Condition =>
             ({ condition := c, scope := (t.notice c).firstScope, counter := (t.notice c).counter } : NoticeRecord)
           ∃ rest : List NoticeRecord,
             t.uplink.notices = (if announced then record .trunkRestored :: rest else rest)
               ∧ (rest.map fun r => r.condition.code).Pairwise (· < ·)
               ∧ ∀ r, r ∈ rest ↔
                 ∃ c, (t.notice c).pending = true ∧ t.enabled c = true ∧ (announced → c ≠ .trunkRestored) ∧ r = record c)
        ∧ t.uplink = { s.uplink with notices := t.uplink.notices }
        ∧ t = { s with link := .up, notices := t.notices, uplink := t.uplink })

/-- MAINT becoming inactive while VALIDATED or REHEARSING on MAINT reliance withdraws the validation: EDITING, a failure of
PIN_CONFLICT with the same index, reliance cleared, STAGE_REJECTED reported, rehearsal ended, and with it the staged run of a
record in translation (R140) and the shadow part of a sweep in progress (how a sweep is held: log entry 14), the staged bank kept.
Every other change of MAINT changes nothing but the input (R136). -/
def Obligations.MaintLossWithdrawsReliance : Prop :=
  ∀ (s : State) (active : Bool), s.Law →
    let withdraws :=
      active = false ∧ (s.staging = .validated ∨ s.staging = .rehearsing) ∧ s.result.reliance = true
    (¬withdraws → exec (.maintChange active) s = .next { s with maint := active })
    ∧ (withdraws →
      ∃ t, exec (.maintChange active) s = .next t
        ∧ t.staging = .editing
        ∧ t.result = { outcome := .failed, check := some .pinConflict, index := s.result.index, reliance := false }
        ∧ t.notice .stageRejected = (s.notice .stageRejected).reported none
        ∧ (∀ c, c ≠ .stageRejected → t.notice c = s.notice c)
        ∧ t.shadow = Vector.replicate 255 .idle
        ∧ t.engine = s.engineLeft
        ∧ (s.staging = .validated → t.sweep = s.sweep)
        ∧ (s.staging = .rehearsing → ({ t with sweep := s.sweep } : State).SweepGoesOn t)
        ∧ t.uplink = { s.uplink with notices := t.uplink.notices }
        ∧ t =
          { s with
            maint := false, staging := t.staging, result := t.result, shadow := t.shadow, engine := t.engine,
            sweep := t.sweep, notices := t.notices, uplink := t.uplink })

/-! ## Notices -/

/-- A report of a condition advances its counter up to 65535; a condition not pending becomes pending with its occurrence flag and
the scope reported, and offers a record in place of its waiting one or at the tail when it is enabled and the trunk is up; a
pending one keeps its first scope and offers nothing (R125, R170, R172). -/
def Obligations.ReportMakesConditionPending : Prop :=
  ∀ (s : State) (c : Condition) (scope : Option Nat),
    let t := report c scope s
    let n := s.notice c
    let record : NoticeRecord := { condition := c, scope := scope, counter := (t.notice c).counter }
    (t.notice c).counter = (if n.counter < 65535 then n.counter + 1 else n.counter)
    ∧ (t.notice c).pending = true
    ∧ (n.pending = true → (t.notice c).firstScope = n.firstScope ∧ (t.notice c).occurrence = n.occurrence)
    ∧ (n.pending = false → (t.notice c).firstScope = scope ∧ (t.notice c).occurrence = true)
    ∧ (∀ d, d ≠ c → t.notice d = s.notice d)
    ∧ (n.pending = true ∨ s.enabled c = false ∨ s.link = .down → t.uplink = s.uplink)
    ∧ (n.pending = false → s.enabled c = true → s.link = .up →
      ((∀ r ∈ s.uplink.notices, r.condition ≠ c) →
        t.uplink = { s.uplink with notices := s.uplink.notices ++ [record] })
      ∧ ((∃ r ∈ s.uplink.notices, r.condition = c) →
        t.uplink =
          { s.uplink with notices := s.uplink.notices.map fun r => if r.condition = c then record else r }))
    ∧ t = { s with notices := t.notices, uplink := t.uplink }

/-! ## Zone temperatures -/

/-- The mean of readings with weights from 1 is the exact mean S / W rounded half up, and lies between the smallest and the
largest reading (R107). The included readings of a zone are those of the fresh, plausible TEMPERATURE_SENSOR entries of its member
temperature sensors, in ascending address order, each with its window's weight (R106; an age is a 32-bit difference, log entry
12). The spread is the largest included reading less the smallest, and the spread alarm stands when it exceeds a setting that is
not 0 (R110). The effective setpoint is the setback of a VACANT zone and the comfort setpoint of any other, plus the offset,
saturated to 1000..3500 (R111). -/
def Obligations.WeightedMeanRoundsAndStaysBetween : Prop :=
  (∀ (rs : List (Nat × Int)) (low high : Int), rs ≠ [] → (∀ r ∈ rs, 1 ≤ r.1 ∧ low ≤ r.2 ∧ r.2 ≤ high) →
      low ≤ weightedMean rs ∧ weightedMean rs ≤ high
        ∧ 2 * weightTotal rs * weightedMean rs ≤ 2 * weightedSum rs + weightTotal rs
        ∧ 2 * weightedSum rs + weightTotal rs < 2 * weightTotal rs * (weightedMean rs + 1))
  ∧ (∀ (s : State) (b : Bank) (z : Nat), s.Law → b.Valid →
    let member := fun (w : Window) (a : Nat) =>
      w ∈ b.windows ∧ w.translate = true ∧ w.role = .temperatureSensor ∧ w.zone = z ∧ w.low ≤ a ∧ a ≤ w.high
    let included := fun (a : Nat) (t : Int) =>
      ∃ e ∈ s.cache, e.address = a ∧ e.role = .temperatureSensor ∧ e.last = .reading t ∧ 0 ≤ t ∧ t ≤ 5000
        ∧ (s.deviceTime - e.second).toNat ≤ s.settings.staleLimit
    ∃ addresses : List Nat, addresses.Pairwise (· < ·)
      ∧ (∀ a, a ∈ addresses ↔ ∃ w t, member w a ∧ included a t)
      ∧ List.Forall₂ (fun a r => ∃ w, member w a ∧ r.1 = w.weight ∧ included a r.2) addresses
        (s.includedReadings b.windows z))
  ∧ (∀ rs : List (Nat × Int), rs ≠ [] →
    ∃ p ∈ rs, ∃ q ∈ rs, (∀ r ∈ rs, q.2 ≤ r.2 ∧ r.2 ≤ p.2) ∧ (readingSpread rs : Int) = p.2 - q.2)
  ∧ ∀ (z : ZoneState) (r : ZoneRecord),
    (z.spreadAlarm r = true ↔ r.spreadAlarm ≠ 0 ∧ r.spreadAlarm < z.spread)
      ∧ z.setpoint r = max 1000 (min 3500 ((if z.occupancy = .vacant then (r.setback : Int) else r.comfort) + z.offset))

/-! ## Requests that read the device -/

/-- Every request of wrong length is refused REFUSED; of right length it is refused REFUSED when it was addressed to all parts,
and BUSY during the store load, unless it is IDENTIFY or READ_STATUS (R178; log entry 30). IDENTIFY is answered with the identity
of R179 and READ_STATUS with the contents of Table 11-4 (R180, R184); a request of unknown name is answered REFUSED under its own
code (R178). READ_TABLE is refused REFUSED for a bad count, BAD_TABLE for a code that names no table and BAD_INDEX for a start
outside its table, in this order (log entry 18), and returns, from an index of its table, the records asked for up to the end of
the table and to 240 body bytes (R181), each laid out as Table 11-7 gives. Each changes nothing but the slot and the reply queue.
A reply carries its request's tag, its code, its result and its data, and joins the reply queue at the tail while the trunk is UP;
while it is DOWN it is discarded (R123, R127, R178). -/
def Obligations.ReadsAnswerAndChangeNothing : Prop :=
  (∀ (s : State) (r : Request), s.Takes r →
    let t : State := { s with slot := none }
    (r.body = [1] →
      exec .identify s =
        .next (t.answer r 1 .ok
          ([0x4E, 0x53, 0x45, 0x12, 1] ++ (List.range 6).map (fun i => Config.uniqueNumber.extractLsb' (8 * (5 - i)) 8)
            ++ [s.trunkAddress])))
    ∧ (r.body = [2] →
      exec .readStatus s = .next (t.answer r 2 .ok (statusData s)) ∧ (statusData s).length = 74)
    ∧ (∀ c rest, r.body = c :: rest → c = 0 ∨ 23 < c.toNat →
      exec .unknownRequestName s = .next (t.answer r c.toNat .refused []))
    ∧ (r.broadcast = false → s.loading = false → ∀ table i1 i0 count : Nat, table < 256 → i1 < 256 → i0 < 256 →
      count < 256 → r.body = [3, byte table, byte i1, byte i0, byte count] →
      let start := i1 * 256 + i0
      (count = 0 ∨ 16 < count → exec .readTable s = .next (t.answer r 3 .refused []))
        ∧ (1 ≤ count → count ≤ 16 → 10 < table → exec .readTable s = .next (t.answer r 3 .badTable []))
        ∧ ∀ first stop size, 1 ≤ count → count ≤ 16 → tableRange s table = some (first, stop) →
          recordSize table = some size →
          (start < first ∨ stop ≤ start → exec .readTable s = .next (t.answer r 3 .badIndex []))
            ∧ (first ≤ start → start < stop →
              ∃ n data,
                exec .readTable s = .next (t.answer r 3 .ok ([byte table, byte i1, byte i0, byte n] ++ data))
                  ∧ n = min count (min (stop - start) (234 / size))
                  ∧ data = (List.range' start n).flatMap (tableRecord s table)
                  ∧ data.length = n * size ∧ 6 + data.length ≤ 240))
    ∧ (∀ c ∈ [(Instr.identify, 1, 1), (.readStatus, 2, 1), (.readTable, 3, 5), (.insertWindow, 5, 14),
          (.deleteWindow, 6, 4), (.clearEntry, 7, 4), (.copyActive, 8, 1), (.discardStaged, 9, 1), (.validate, 10, 1),
          (.rehearseStart, 11, 1), (.rehearseStop, 12, 1), (.cutover, 13, 1), (.abortCutover, 14, 1),
          (.zoneSetLevel, 15, 5), (.zoneForce, 16, 4), (.zoneSetDamper, 17, 5), (.setParameter, 18, 5),
          (.setClosedFloor, 19, 2), (.flushReadings, 20, 1), (.clearOccurrences, 22, 1), (.restart, 23, 1)],
      r.body.head? = some (byte c.2.1) →
        (r.body.length ≠ c.2.2 → exec c.1 s = .next (t.answer r c.2.1 .refused []))
          ∧ (r.body.length = c.2.2 → 3 ≤ c.2.1 → r.broadcast = true →
            exec c.1 s = .next (t.answer r c.2.1 .refused []))
          ∧ (r.body.length = c.2.2 → 3 ≤ c.2.1 → r.broadcast = false → s.loading = true →
            exec c.1 s = .next (t.answer r c.2.1 .busy [])))
    ∧ (r.body.head? = some 4 → r.body.length < 4 → exec .writeStaged s = .next (t.answer r 4 .refused []))
    ∧ (∀ (table i1 i0 : Byte) (rest : List Byte), r.body = 4 :: table :: i1 :: i0 :: rest →
      let fits := ∀ size, recordSize table.toNat = some size → rest.length % size = 0
      (¬fits → exec .writeStaged s = .next (t.answer r 4 .refused []))
        ∧ (fits → r.broadcast = true → exec .writeStaged s = .next (t.answer r 4 .refused []))
        ∧ (fits → r.broadcast = false → s.loading = true → exec .writeStaged s = .next (t.answer r 4 .busy [])))
    ∧ (∀ codes : List Byte, r.body = 21 :: codes →
      (r.broadcast = true → exec .clearPending s = .next (t.answer r 21 .refused []))
        ∧ (r.broadcast = false → s.loading = true → exec .clearPending s = .next (t.answer r 21 .busy []))))
  ∧ (∀ s : State,
    let two := fun n : Nat => [byte (n / 256), byte n]
    let bit := fun (i : Nat) (b : Bool) => if b then 2 ^ i else 0
    let flag := fun b : Bool => byte (bit 0 b)
    let signed := fun n : Int => two (n % 65536).toNat
    let four := fun n : Nat => [byte (n / 16777216), byte (n / 65536), byte (n / 256), byte n]
    let check : Nat :=
      match s.result.check with
      | none => 0
      | some c => c.code
    let segment := fun n : Nat =>
      let g := s.segment n
      [byte g.line.code, byte g.hold.code, flag (s.forcedHold n), byte g.ingress.length, byte g.commands.length,
          byte g.stations.length]
        ++ two g.received ++ two g.malformed ++ two g.overflow
    let zoneState := fun (v : ZoneState) (r : ZoneRecord) =>
      [byte v.occupancy.code] ++ two v.hold ++ two v.grace ++ two v.level ++ two v.preGrace ++ signed v.offset
        ++ signed (v.temperature.getD 0) ++ [byte v.status.code, byte v.count] ++ two v.spread
        ++ two (v.damper.getD 65535)
        ++ [byte (bit 0 v.outputIncomplete + bit 1 v.reportPending + bit 2 v.frozen + bit 3 (v.spreadAlarm r))]
        ++ signed (v.setpoint r)
    statusData s =
        [byte s.staging.code, byte s.result.outcome.code, byte check] ++ two (s.result.index.getD 0)
          ++ [flag s.result.reliance, byte s.walk.cursor] ++ two s.generation ++ two s.sweep.number
          ++ four s.deviceTime.toNat ++ [flag s.maint, flag s.settings.closedFloor]
          ++ segment 1 ++ segment 2 ++ segment 3 ++ segment 4 ++ [byte s.walk.held.length, byte s.link.code]
          ++ two s.uplink.forwardDiscards ++ two s.uplink.traceDiscards
          ++ [flag s.store.writing, byte s.store.status.code, flag s.loading]
      ∧ (∀ i w, s.active.windows[i]? = some w → tableRecord s 0 i = w.bytes)
      ∧ (∀ i w, s.staged.windows[i]? = some w → tableRecord s 1 i = w.bytes)
      ∧ (∀ z, tableRecord s 2 z = (s.record z).bytes ∧ tableRecord s 3 z = (s.stagedRecord z).bytes)
      ∧ (∀ z, tableRecord s 4 z = zoneState (s.zone z) (s.record z)
        ∧ tableRecord s 5 z = zoneState (s.shadowZone z) (s.stagedRecord z))
      ∧ (∀ i : Fin 32, tableRecord s 6 i = s.active.classifier[i].bytes ∧ tableRecord s 7 i = s.staged.classifier[i].bytes)
      ∧ (∀ i e, s.cache[i]? = some e →
        tableRecord s 8 i =
          two e.address ++ [byte e.role.code]
            ++ (match e.last with | .presence => two 2 | .absence => two 3 | .reading t => signed t)
            ++ four e.second.toNat ++ [flag e.implausible])
      ∧ (∀ i e, s.presence[i]? = some e →
        tableRecord s 9 i = two e.address ++ [byte e.state.code, byte e.missed, flag e.heard])
      ∧ (∀ c : Condition,
        let n := s.notice c
        tableRecord s 10 c.code =
          [byte c.code, byte (bit 0 n.pending + bit 1 n.occurrence + bit 2 (s.enabled c))] ++ two n.counter
            ++ two (n.firstScope.getD 65535))
      ∧ (List.range 11).map (tableRange s) =
        [some (0, s.active.windows.length), some (0, s.staged.windows.length), some (1, 256), some (1, 256),
          some (1, 256), some (1, 256), some (0, 32), some (0, 32), some (0, s.cache.length), some (0, s.presence.length),
          some (0, 21)])
  ∧ (∀ (s : State) (r : Request) (code : Nat) (result : Result) (data : List Byte),
    let reply : Reply := { tag := r.tag, body := [byte code, byte result.code] ++ data }
    (s.link = .up → s.answer r code result data = { s with uplink := { s.uplink with replies := s.uplink.replies ++ [reply] } })
      ∧ (s.link = .down → s.answer r code result data = s))
  ∧ (List.range 11).map recordSize = [10, 10, 18, 18, 22, 22, 11, 11, 10, 5, 6].map some
  ∧ [StagingState.empty, .editing, .validated, .rehearsing, .cutting, .retained].map StagingState.code = [0, 1, 2, 3, 4, 5]
  ∧ [ValidationOutcome.none, .passed, .failed].map ValidationOutcome.code = [0, 1, 2]
  ∧ [Check.order, .zoneMissing, .zoneZero, .levels, .actuatorLimit, .tempLimit, .sensorTotal, .pinAttribute,
      .pinConflict].map Check.code = [1, 2, 3, 4, 5, 6, 7, 8, 9]
  ∧ [LineState.up, .down].map LineState.code = [0, 1] ∧ [HoldState.released, .held].map HoldState.code = [0, 1]
  ∧ [StoreStatus.valid, .invalid].map StoreStatus.code = [0, 1]
  ∧ [Occupancy.vacant, .occupied, .grace].map Occupancy.code = [0, 1, 2]
  ∧ [TemperatureStatus.valid, .stale, .none].map TemperatureStatus.code = [0, 1, 2]
  ∧ [PresenceState.unknown, .present, .silent].map PresenceState.code = [0, 1, 2]
  ∧ [Role.occupancySensor, .temperatureSensor, .keypad, .luminaire, .damper, .other].map Role.code = [0, 1, 2, 3, 4, 5]
  ∧ [Result.ok, .clamped, .busy, .badState, .badTable, .badIndex, .full, .locked, .refused, .invalid].map Result.code =
    [0, 1, 2, 3, 4, 5, 6, 7, 8, 9]

/-! ## Staging -/

/-- WRITE_STAGED, INSERT_WINDOW, DELETE_WINDOW and CLEAR_ENTRY of the window list edit it as the table of R37 gives; WRITE_STAGED
and CLEAR_ENTRY of zone records and classifier entries store them at their numbers (R22, R58). A record is stored as
StoredRecordsReadBack says, and the answer is CLAMPED when a field of one was corrected and OK otherwise. An accepted edit ends
rehearsal, and with it the staged run of a record in translation (R140) and the shadow part of a sweep in progress (how a sweep is
held: log entry 14), makes the state EDITING and clears the result (R131, R143), and changes no active table, runtime state or
queue. An edit is refused, and changes nothing, BUSY in CUTTING and BAD_STATE in RETAINED; then BAD_TABLE for a table it does not
edit; then REFUSED for a WRITE_STAGED of no record or of more than 16; then BAD_INDEX for an index outside the table and FULL for
a list that would exceed 512 windows (Table 8-2, R22, R37, R58, R131). -/
def Obligations.EditsChangeTheStagedBank : Prop :=
  ∀ (s : State) (r : Request), s.Law → s.Admits r →
    let refused := fun (command : Instr) (code : Nat) (result : Result) =>
      exec command s = .next (({ s with slot := none } : State).answer r code result [])
    let edited := fun (command : Instr) (code : Nat) (clamped : Bool) (bank : Bank) =>
      ∃ t u : State, exec command s = .next t ∧ t = u.answer r code (if clamped then .clamped else .ok) []
        ∧ u.staged = bank ∧ u.staging = .editing
        ∧ u.result = .cleared ∧ u.shadow = Vector.replicate 255 .idle ∧ u.engine = s.engineLeft
        ∧ (s.staging ≠ .rehearsing → u.sweep = s.sweep)
        ∧ (s.staging = .rehearsing → ({ u with sweep := s.sweep } : State).SweepGoesOn u)
        ∧ u =
          { s with
            slot := none, staged := u.staged, staging := u.staging, result := u.result, shadow := u.shadow,
            engine := u.engine, sweep := u.sweep }
    let count := s.staged.windows.length
    let to2 := fun i : Nat => [byte (i / 256), byte i]
    let stored := fun {α : Type} (size : Nat) (store : List Byte → Option (α × Bool)) (received : List (List Byte))
        (ws : List (α × Bool)) =>
      List.Forall₂ (fun b w => b.length = size ∧ store b = some w) received ws
    let editable := s.staging ≠ .cutting ∧ s.staging ≠ .retained
    (∀ (i1 i0 : Byte) (c : Instr × Nat × Byte × List Byte),
      (∃ table rest, c = (.writeStaged, 4, table, rest) ∧ ∀ size, recordSize table.toNat = some size → rest.length % size = 0)
        ∨ (∃ table rest, c = (.insertWindow, 5, table, rest) ∧ rest.length = 10)
        ∨ (∃ table, c = (.deleteWindow, 6, table, [])) ∨ (∃ table, c = (.clearEntry, 7, table, [])) →
      r.body = [byte c.2.1, c.2.2.1, i1, i0] ++ c.2.2.2 →
      let i := i1.toNat * 256 + i0.toNat
      let table := c.2.2.1.toNat
      let n := c.2.2.2.length / (if table = 1 then 10 else if table = 3 then 18 else 11)
      (s.staging = .cutting → refused c.1 c.2.1 .busy)
        ∧ (s.staging = .retained → refused c.1 c.2.1 .badState)
        ∧ (editable →
          (table ≠ 1 → (table ≠ 3 ∧ table ≠ 7) ∨ c.1 = .insertWindow ∨ c.1 = .deleteWindow → refused c.1 c.2.1 .badTable)
          ∧ (c.1 = .writeStaged → table = 1 ∨ table = 3 ∨ table = 7 →
            (n = 0 ∨ 16 < n → refused c.1 4 .refused)
            ∧ (1 ≤ n → n ≤ 16 →
              (table = 1 → count < i → refused c.1 4 .badIndex)
              ∧ (table = 1 → i ≤ count → 512 < i + n → refused c.1 4 .full)
              ∧ (table = 3 → i = 0 ∨ 255 < i + n - 1 → refused c.1 4 .badIndex)
              ∧ (table = 7 → 31 < i + n - 1 → refused c.1 4 .badIndex)))
          ∧ (c.1 = .insertWindow → table = 1 → count < i → refused c.1 5 .badIndex)
          ∧ (c.1 = .insertWindow → table = 1 → i ≤ count → count = 512 → refused c.1 5 .full)
          ∧ (c.1 = .deleteWindow → table = 1 → count ≤ i → refused c.1 6 .badIndex)
          ∧ (c.1 = .clearEntry → table = 1 ∧ count ≤ i ∨ table = 3 ∧ (i = 0 ∨ 255 < i) ∨ table = 7 ∧ 31 < i →
            refused c.1 7 .badIndex)))
    ∧ (editable →
      (∀ (received : List (List Byte)) (ws : List (Window × Bool)) (i : Nat), stored 10 storeWindow received ws →
        1 ≤ ws.length → ws.length ≤ 16 → i ≤ count → i + ws.length ≤ 512 → r.body = [4, 1] ++ to2 i ++ received.flatten →
        edited .writeStaged 4 (ws.any fun w => w.2)
          { s.staged with
            windows := s.staged.windows.take i ++ ws.map (fun w => w.1) ++ s.staged.windows.drop (i + ws.length) })
      ∧ (∀ (received : List (List Byte)) (rs : List (ZoneRecord × Bool)) (i : Nat), stored 18 storeZone received rs →
        1 ≤ rs.length → rs.length ≤ 16 → 1 ≤ i → i + rs.length ≤ 256 → r.body = [4, 3] ++ to2 i ++ received.flatten →
        ∃ bank : Bank, edited .writeStaged 4 (rs.any fun x => x.2) bank ∧ bank.windows = s.staged.windows
          ∧ bank.classifier = s.staged.classifier
          ∧ ∀ z, 1 ≤ z → z ≤ 255 →
            bank.zone z =
              if i ≤ z then ((rs[z - i]?).map (fun x => x.1)).getD (s.staged.zone z) else s.staged.zone z)
      ∧ (∀ (received : List (List Byte)) (es : List (ClassifierEntry × Bool)) (i : Nat), stored 11 storeEntry received es →
        1 ≤ es.length → es.length ≤ 16 → i + es.length ≤ 32 → r.body = [4, 7] ++ to2 i ++ received.flatten →
        ∃ bank : Bank, edited .writeStaged 4 (es.any fun x => x.2) bank ∧ bank.windows = s.staged.windows
          ∧ bank.zones = s.staged.zones
          ∧ ∀ j : Fin 32,
            bank.classifier[j] =
              if i ≤ j.val then ((es[j.val - i]?).map (fun x => x.1)).getD s.staged.classifier[j]
              else s.staged.classifier[j])
      ∧ (∀ (received : List Byte) (w : Window) (clamped : Bool) (i : Nat), received.length = 10 →
        storeWindow received = some (w, clamped) → i ≤ count → count < 512 → r.body = [5, 1] ++ to2 i ++ received →
        edited .insertWindow 5 clamped
          { s.staged with windows := s.staged.windows.take i ++ [w] ++ s.staged.windows.drop i })
      ∧ (∀ i : Nat, i < count → r.body = [6, 1] ++ to2 i →
        edited .deleteWindow 6 false
          { s.staged with windows := s.staged.windows.take i ++ s.staged.windows.drop (i + 1) })
      ∧ (∀ i : Nat, i < count → r.body = [7, 1] ++ to2 i →
        edited .clearEntry 7 false
          { s.staged with windows := s.staged.windows.take i ++ s.staged.windows.drop (i + 1) })
      ∧ (∀ i : Nat, 1 ≤ i → i ≤ 255 → r.body = [7, 3] ++ to2 i →
        edited .clearEntry 7 false { s.staged with zones := put s.staged.zones i .cleared })
      ∧ ∀ i : Nat, i ≤ 31 → r.body = [7, 7] ++ to2 i →
        edited .clearEntry 7 false { s.staged with classifier := put s.staged.classifier (i + 1) .cleared })

/-- COPY_ACTIVE makes the staged bank a copy of the active bank and the state EDITING; DISCARD_STAGED makes it the empty plan and
the state EMPTY. Both are accepted outside CUTTING, end rehearsal, and with it the staged run of a record in translation (R140)
and the shadow part of a sweep in progress (how a sweep is held: log entry 14), and clear the result (R132, R143); in CUTTING they
are refused BUSY (Table 8-2). -/
def Obligations.CopyAndDiscardReplaceTheStagedBank : Prop :=
  ∀ (s : State) (r : Request), s.Law → s.Admits r →
    let replaced := fun (command : Instr) (code : Nat) (bank : Bank) (next : StagingState) =>
      (s.staging ≠ .cutting →
        ∃ t u : State, exec command s = .next t ∧ t = u.answer r code .ok [] ∧ u.staged = bank ∧ u.staging = next
          ∧ u.result = .cleared ∧ u.shadow = Vector.replicate 255 .idle ∧ u.engine = s.engineLeft
          ∧ (s.staging ≠ .rehearsing → u.sweep = s.sweep)
          ∧ (s.staging = .rehearsing → ({ u with sweep := s.sweep } : State).SweepGoesOn u)
          ∧ u =
            { s with
              slot := none, staged := u.staged, staging := u.staging, result := u.result, shadow := u.shadow,
              engine := u.engine, sweep := u.sweep })
      ∧ (s.staging = .cutting → exec command s = .next (({ s with slot := none } : State).answer r code .busy []))
    (r.body = [8] → replaced .copyActive 8 s.active .editing)
      ∧ (r.body = [9] → replaced .discardStaged 9 Bank.empty .empty)

/-- VALIDATE in EMPTY and EDITING: the first failing check of Table 8-3 makes the state EDITING, records the failure, reports
STAGE_REJECTED and is answered INVALID; a failing pin test does so as PIN_CONFLICT unless MAINT is active; otherwise the state
becomes VALIDATED, with reliance recorded exactly when the pin test failed (R133, R135, R137). No table changes. In CUTTING it is
refused BUSY, and in VALIDATED, REHEARSING and RETAINED BAD_STATE (Table 8-2). Which check fails first, and the index it reports,
is ValidationChecksTheWholeBank, and the zone that the pin test reports is PinTestProtectsPinnedRooms. -/
def Obligations.ValidateDecides : Prop :=
  (∀ (s : State) (r : Request), s.Admits r → r.body = [10] →
    let refused := fun result : Result => exec .validate s = .next (({ s with slot := none } : State).answer r 10 result [])
    (s.staging = .cutting → refused .busy)
      ∧ (s.staging = .validated ∨ s.staging = .rehearsing ∨ s.staging = .retained → refused .badState))
  ∧ ∀ (s : State) (r : Request), s.Admits r → s.staging = .empty ∨ s.staging = .editing → r.body = [10] →
    let rejected := fun (c : Check) (i : Nat) =>
      exec .validate s =
        .next
          ((report .stageRejected none
              { s with
                slot := none
                staging := .editing
                result := { outcome := .failed, check := some c, index := some i, reliance := false } }).answer
            r 10 .invalid [byte c.code, byte (i / 256), byte i])
    let passed := fun (index : Option Nat) (reliance : Bool) =>
      exec .validate s =
        .next
          ({ s with
              slot := none
              staging := .validated
              result := { outcome := .passed, check := none, index := index, reliance := reliance } }.answer r 10 .ok [])
    (∀ c i, firstFailure s.staged = some (c, i) → rejected c i)
      ∧ (firstFailure s.staged = none → pinTest s.active s.staged = none → passed none false)
      ∧ ∀ z, firstFailure s.staged = none → pinTest s.active s.staged = some z →
        if s.maint then passed (some z) true else rejected .pinConflict z

/-- The first eight checks of Table 8-3 apply to the whole stored bank in the table's order: check c fails first, with index i,
exactly when i is the lowest index at which c fails as its row gives, and no check before it fails anywhere (R133, R134). The
index is the later window of the first pair out of order, a window index, a zone number, or the window at which the running total
first exceeds 1,024. So a stored bank passes the first eight checks exactly when its windows ascend, every Translate window names
a present zone, no present zone has its min-on level above its on level, no zone holds more than 64 actuator or 32 temperature
sensor addresses, the windows of sensor role hold at most 1,024 addresses, and every Pin stands with Translate (R134). -/
def Obligations.ValidationChecksTheWholeBank : Prop :=
  ∀ b : Bank, b.Stored →
    let held := fun (p : Window → Bool) (windows : List Window) =>
      ((windows.filter p).map fun w => w.high + 1 - w.low).sum
    let fails := fun (c : Check) (i : Nat) =>
      match c with
      | .order => ∃ k v w, i = k + 1 ∧ b.windows[k]? = some v ∧ b.windows[k + 1]? = some w ∧ ¬v.high < w.low
      | .zoneMissing =>
        ∃ w, b.windows[i]? = some w ∧ w.translate = true ∧ 1 ≤ w.zone ∧ w.zone ≤ 255 ∧ (b.zone w.zone).present = false
      | .zoneZero => ∃ w, b.windows[i]? = some w ∧ w.translate = true ∧ w.zone = 0
      | .levels => 1 ≤ i ∧ i ≤ 255 ∧ (b.zone i).present = true ∧ (b.zone i).onLevel < (b.zone i).minOn
      | .actuatorLimit =>
        1 ≤ i ∧ i ≤ 255
          ∧ 64 < held (fun w => w.translate && w.zone == i && (w.role == .luminaire || w.role == .damper)) b.windows
      | .tempLimit =>
        1 ≤ i ∧ i ≤ 255 ∧ 32 < held (fun w => w.translate && w.zone == i && w.role == .temperatureSensor) b.windows
      | .sensorTotal =>
        i < b.windows.length
          ∧ 1024 < held (fun w => w.role == .occupancySensor || w.role == .temperatureSensor) (b.windows.take (i + 1))
      | .pinAttribute => ∃ w, b.windows[i]? = some w ∧ w.pin = true ∧ w.translate = false
      | .pinConflict => False
    (∀ c i, firstFailure b = some (c, i) ↔
      fails c i ∧ (∀ j, j < i → ¬fails c j) ∧ ∀ d j, d.code < c.code → ¬fails d j)
    ∧ (firstFailure b = none ↔
      b.windows.Pairwise (fun w v => w.high < v.low)
        ∧ (∀ w ∈ b.windows, w.translate = true → w.zone ≠ 0 ∧ (b.zone w.zone).present = true)
        ∧ (∀ z, (b.zone z).present = true → (b.zone z).minOn ≤ (b.zone z).onLevel)
        ∧ (∀ z, 1 ≤ z → z ≤ 255 →
          (membersOfRole b.windows z .luminaire).length + (membersOfRole b.windows z .damper).length ≤ 64
            ∧ (membersOfRole b.windows z .temperatureSensor).length ≤ 32)
        ∧ (((b.windows.filter fun w => w.role = .occupancySensor ∨ w.role = .temperatureSensor).map
              fun w => w.high + 1 - w.low).sum ≤ 1024)
        ∧ ∀ w ∈ b.windows, w.pin = true → w.translate = true)

/-- The pin test passes exactly when every pinned window of the active list has an equal in low, high, segment, zone and role in
the staged list, and every pinned zone has the same present record and the same member addresses in both banks (R55). When it
fails it reports the zone of the first pinned window of the active list without an equal one, in index order; else the lowest
pinned zone whose staged record is not present or differs; else the lowest pinned zone whose member addresses differ (R135). A
zone is pinned when a window of the list that names it has Pin set (R54). A zone is pinned when a window of the list that names it
has Pin set (R54). -/
def Obligations.PinTestProtectsPinnedRooms : Prop :=
  ∀ old new : Bank, old.Stored → new.Stored →
    let isPinned := fun z : Nat => ∃ w ∈ old.windows, w.pin = true ∧ w.zone = z
    let isMember := fun (b : Bank) (z a : Nat) =>
      ∃ w ∈ b.windows, w.translate = true ∧ w.zone = z ∧ w.low ≤ a ∧ a ≤ w.high
    let survives := fun w : Window =>
      ∃ v ∈ new.windows, v.low = w.low ∧ v.high = w.high ∧ v.segment = w.segment ∧ v.zone = w.zone ∧ v.role = w.role
    let changed := fun z : Nat =>
      1 ≤ z ∧ z ≤ 255 ∧ isPinned z ∧ ¬((new.zone z).present = true ∧ new.zone z = old.zone z)
    let moved := fun z : Nat => 1 ≤ z ∧ z ≤ 255 ∧ isPinned z ∧ ¬∀ a, isMember new z a ↔ isMember old z a
    (∀ z, pinned old.windows z = true ↔ isPinned z)
    ∧ (∀ z, pinTest old new = some z ↔
      (∃ before w after, old.windows = before ++ w :: after ∧ w.pin = true ∧ ¬survives w ∧ w.zone = z
          ∧ ∀ v ∈ before, v.pin = true → survives v)
        ∨ ((∀ w ∈ old.windows, w.pin = true → survives w)
          ∧ (changed z ∧ (∀ y, y < z → ¬changed y) ∨ (∀ y, ¬changed y) ∧ moved z ∧ ∀ y, y < z → ¬moved y)))
    ∧ (pinTest old new = none ↔
      (∀ w ∈ old.windows, w.pin = true → ∃ v ∈ new.windows,
          v.low = w.low ∧ v.high = w.high ∧ v.segment = w.segment ∧ v.zone = w.zone ∧ v.role = w.role)
        ∧ ∀ z, 1 ≤ z → z ≤ 255 → isPinned z →
          ((new.zone z).present = true ∧ new.zone z = old.zone z) ∧ ∀ a, isMember new z a ↔ isMember old z a)

/-- REHEARSE_START in VALIDATED seeds every shadow record: idle for a zone not staged, a copy of the runtime record for a zone
pinned in the active bank, and the inherited state for every other (R138, R139). REHEARSE_STOP in REHEARSING returns the shadow
table to idle and the state to VALIDATED, cancels the staged run of a record in translation (R140), and ends the shadow part of a
sweep in progress (how a sweep is held: log entry 14) (R138, R143). In CUTTING both are refused BUSY, and in every other state but
their own BAD_STATE (Table 8-2). What the inherited state is stands in DominantContributorHasMostLuminaires. -/
def Obligations.RehearsalStartsAndStops : Prop :=
  ∀ (s : State) (r : Request), s.Law → s.Admits r →
    let refused := fun (command : Instr) (code : Nat) (result : Result) =>
      exec command s = .next (({ s with slot := none } : State).answer r code result [])
    (s.staging = .validated → r.body = [11] →
      ∃ u : State, exec .rehearseStart s = .next (u.answer r 11 .ok [])
        ∧ (∀ z, (s.stagedRecord z).present = false → u.shadowZone z = .idle)
        ∧ (∀ z, (s.stagedRecord z).present = true → pinned s.active.windows z = true →
          u.shadowZone z =
            { s.zone z with
              level := if (s.zone z).level = 0 then 0 else max (s.stagedRecord z).minOn (s.zone z).level
              preGrace := if (s.zone z).preGrace = 0 then 0 else max (s.stagedRecord z).minOn (s.zone z).preGrace
              outputIncomplete := false, reportPending := false, frozen := false, expiring := false })
        ∧ (∀ z, (s.stagedRecord z).present = true → pinned s.active.windows z = false →
          u.shadowZone z = s.computedState z)
        ∧ u =
          { s with
            slot := none, staging := .rehearsing, shadow := u.shadow, engine := { s.engine with traceCount := 0 } })
    ∧ (s.staging = .rehearsing → r.body = [12] →
      ∃ u : State, exec .rehearseStop s = .next (u.answer r 12 .ok [])
        ∧ u.staging = .validated ∧ u.shadow = Vector.replicate 255 .idle ∧ u.engine = s.engine.runCancelled
        ∧ ({ u with sweep := s.sweep } : State).SweepGoesOn u
        ∧ u = { s with slot := none, staging := u.staging, shadow := u.shadow, engine := u.engine, sweep := u.sweep })
    ∧ (r.body = [11] →
      (s.staging = .cutting → refused .rehearseStart 11 .busy)
        ∧ (s.staging ≠ .cutting → s.staging ≠ .validated → refused .rehearseStart 11 .badState))
    ∧ (r.body = [12] →
      (s.staging = .cutting → refused .rehearseStop 12 .busy)
        ∧ (s.staging ≠ .cutting → s.staging ≠ .rehearsing → refused .rehearseStop 12 .badState))

/-! ## Cutover -/

/-- CUTOVER in VALIDATED and REHEARSING, with the store IDLE, makes the state CUTTING, closes the gate, freezes the present zones
that are not pinned, starts the walk, and touches no queue and no notice but for its reply; in REHEARSING it ends rehearsal, and
with it the staged run of a record in translation (R140, R143); a sweep in progress passes over what has nothing left (R146, R147,
R166, R168; how a sweep is held, and what becomes of one that waits: log entries 14, 34); in RETAINED it does so as a revert when
the pin test passes or MAINT is active, and is refused INVALID otherwise (R146, R158). The first walk step begins at the lowest
zone to visit once no translation is in progress, and each completed step keeps that zone's computed state and moves to the next
zone to visit, or ends the walk (R149); that it is computed from the state at its completion is the model's reading (log entry 25,
DEDUCED), and what it is stands in DominantContributorHasMostLuminaires. A CUTOVER is refused BUSY in CUTTING, BAD_STATE in EMPTY
and EDITING, and then BUSY during a store write (R146). -/
def Obligations.CutoverStartsAndWalks : Prop :=
  ∀ (s : State) (r : Request), s.Law →
    let cutting := fun (revert : Bool) (result : ValidationResult) =>
      ∃ t u : State, exec .cutover s = .next t ∧ t = u.answer r 13 .ok [] ∧ u.staging = .cutting ∧ u.result = result
        ∧ u.engine = { s.engineLeft with gateOpen := false }
        ∧ u.shadow = Vector.replicate 255 .idle
        ∧ (∀ z, u.zone z =
          { s.zone z with frozen := (s.record z).present && !pinned s.active.windows z })
        ∧ u.walk = { phase := .waiting, cursor := 0, revert := revert, computed := [], held := [] }
        ∧ u =
          { s with
            slot := none, staging := u.staging, result := u.result, shadow := u.shadow, engine := u.engine,
            zones := u.zones, walk := u.walk, sweep := u.sweep }
        ∧ ({ u with sweep := s.sweep } : State).SweepGoesOn u
    let refused := fun result : Result => exec .cutover s = .next (({ s with slot := none } : State).answer r 13 result [])
    (s.Admits r → r.body = [13] →
      (s.staging = .cutting → refused .busy)
        ∧ (s.staging = .empty ∨ s.staging = .editing → refused .badState)
        ∧ (s.staging ≠ .empty → s.staging ≠ .editing → s.store.writing = true → refused .busy))
    ∧ (s.Admits r → r.body = [13] → s.store.writing = false →
      (s.staging = .validated ∨ s.staging = .rehearsing → cutting false s.result)
      ∧ (s.staging = .retained → pinTest s.active s.staged = none →
        cutting true { outcome := .passed, check := none, index := none, reliance := false })
      ∧ ∀ z, s.staging = .retained → pinTest s.active s.staged = some z →
        if s.maint then cutting true { outcome := .passed, check := none, index := some z, reliance := true }
        else exec .cutover s = .next ({ s with slot := none }.answer r 13 .invalid [9, byte (z / 256), byte z]))
    ∧ (s.resetLow = false → s.staging = .cutting →
      let visits := fun z : Nat => (s.stagedRecord z).present = true ∧ pinned s.active.windows z = false
      (∀ z, s.walk.phase = .waiting → s.engine.current = none → visits z → (∀ y, y < z → ¬visits y) →
        exec .walkBegin s = .next { s with walk := { s.walk with phase := .stepping, cursor := z } })
      ∧ (s.walk.phase = .stepping →
        let c := s.walk.cursor
        let kept := (c, s.computedState c) :: s.walk.computed
        (∀ z, c < z → visits z → (∀ y, c < y → y < z → ¬visits y) →
          exec .walkStepCompletion s = .next { s with walk := { s.walk with cursor := z, computed := kept } })
        ∧ ((∀ z, c < z → ¬visits z) →
          exec .walkStepCompletion s = .next { s with walk := { s.walk with phase := .finished, computed := kept } })))

/-- The dominant contributor of a new zone has the most moving luminaires among its contributors, then the most moving addresses,
then the lowest zone number; there is one exactly when some address is a member of both the new zone and an old zone that is not
0. A moving address lies in an active Translate window of the old zone and in a staged Translate window of the new zone, and a
moving luminaire in one of role LUMINAIRE there (R150). The computed state of a new zone is OCCUPIED with the largest hold of its
OCCUPIED contributors, at most its own full hold, when there is one; else GRACE with the largest grace of its GRACE contributors,
at most its own grace time, when there is one and its grace time is not 0; else VACANT: a remaining time is at least 1 s (Table
9-1, R151). Level, pre-grace level, offset and damper position come from the dominant contributor, raised to the new min-on level,
or from the on level where it is VACANT; the temperature fields come from the included readings alone, and the flags are clear
(R152). -/
def Obligations.DominantContributorHasMostLuminaires : Prop :=
  (∀ (old new : Bank) (z : Nat), old.Stored → new.Stored →
      let contributes := fun y : Nat => 1 ≤ y ∧ y ≤ 255 ∧ ∃ a, memberOf old.windows y a = true ∧ memberOf new.windows z a = true
      let rank := fun y : Nat =>
        (movingLuminaires old.windows new.windows y z, movingAddresses old.windows new.windows y z)
      (dominant old.windows new.windows z = none ↔ ∀ y, ¬contributes y)
        ∧ ∀ d, dominant old.windows new.windows z = some d →
          contributes d ∧ ∀ y, contributes y → y ≠ d →
            (rank y).1 < (rank d).1
              ∨ (rank y).1 = (rank d).1 ∧ ((rank y).2 < (rank d).2 ∨ (rank y).2 = (rank d).2 ∧ d < y))
  ∧ (∀ (old new : Bank) (y z : Nat), old.Valid → new.Valid →
    let inZone := fun (b : Bank) (x a : Nat) (w : Window) =>
      w ∈ b.windows ∧ w.translate = true ∧ w.zone = x ∧ w.low ≤ a ∧ a ≤ w.high
    (∀ a, memberOf new.windows z a = true ↔ ∃ w, inZone new z a w)
      ∧ ∃ moving luminaires : List Nat, moving.Nodup ∧ luminaires.Nodup
        ∧ (∀ a, a ∈ moving ↔ (∃ w, inZone old y a w) ∧ ∃ w, inZone new z a w)
        ∧ (∀ a, a ∈ luminaires ↔ (∃ w, inZone old y a w) ∧ ∃ w, inZone new z a w ∧ w.role = .luminaire)
        ∧ movingAddresses old.windows new.windows y z = moving.length
        ∧ movingLuminaires old.windows new.windows y z = luminaires.length)
  ∧ ∀ (s : State) (z : Nat), s.Law → s.staged.Valid → (s.stagedRecord z).present = true →
    let contributes := fun y : Nat =>
      1 ≤ y ∧ y ≤ 255 ∧ ∃ a, memberOf s.active.windows y a = true ∧ memberOf s.staged.windows z a = true
    let r := s.stagedRecord z
    let c := s.computedState z
    let readings := s.includedReadings s.staged.windows z
    let raised := fun l : Nat => if l = 0 then 0 else max r.minOn l
    let some_occupied := ∃ y, contributes y ∧ (s.zone y).occupancy = .occupied
    let some_grace := ∃ y, contributes y ∧ (s.zone y).occupancy = .grace
    ((∀ y, ¬contributes y) →
      c.occupancy = .vacant ∧ c.hold = 0 ∧ c.grace = 0 ∧ c.level = 0 ∧ c.preGrace = 0 ∧ c.offset = 0 ∧ c.damper = none)
    ∧ (∀ d, dominant s.active.windows s.staged.windows z = some d →
      c.damper = (s.zone d).damper
        ∧ (some_occupied →
          c.occupancy = .occupied
            ∧ (∃ y, contributes y ∧ (s.zone y).occupancy = .occupied
              ∧ (∀ x, contributes x → (s.zone x).occupancy = .occupied → (s.zone x).hold ≤ (s.zone y).hold)
              ∧ c.hold = min (s.zone y).hold (r.holdTime * 60))
            ∧ 1 ≤ c.hold ∧ c.grace = 0 ∧ c.preGrace = 0
            ∧ c.level = (if (s.zone d).occupancy = .vacant then r.onLevel else raised (s.zone d).level)
            ∧ c.offset = (s.zone d).offset)
        ∧ (¬some_occupied → some_grace → r.graceTime ≠ 0 →
          c.occupancy = .grace
            ∧ (∃ y, contributes y ∧ (s.zone y).occupancy = .grace
              ∧ (∀ x, contributes x → (s.zone x).occupancy = .grace → (s.zone x).grace ≤ (s.zone y).grace)
              ∧ c.grace = min (s.zone y).grace r.graceTime)
            ∧ 1 ≤ c.grace ∧ c.hold = 0
            ∧ c.preGrace = (if (s.zone d).occupancy = .grace then raised (s.zone d).preGrace else r.onLevel)
            ∧ c.level = r.graceLevel c.preGrace ∧ c.offset = (s.zone d).offset)
        ∧ (¬some_occupied → (some_grace → r.graceTime = 0) →
          c.occupancy = .vacant ∧ c.hold = 0 ∧ c.grace = 0 ∧ c.level = 0 ∧ c.preGrace = 0 ∧ c.offset = 0))
    ∧ (readings = [] → c.temperature = none ∧ c.status = .none ∧ c.count = 0 ∧ c.spread = 0)
    ∧ (readings ≠ [] →
      c.temperature = some (weightedMean readings) ∧ c.status = .valid ∧ c.count = readings.length
        ∧ c.spread = readingSpread readings)
    ∧ c.outputIncomplete = false ∧ c.reportPending = false ∧ c.frozen = false ∧ c.expiring = false

/-- When the walk has ended, or has no zone to visit, and neither a translation nor a sweep is in progress, the cutover completes
as one event (R149, R156, R157): the banks exchange places and every zone takes its computed, carried or idle state, a raised
level with a level issue (in ascending zone number, log entry 32); the generation advances, reports of absent zones go, cache and
presence table follow the new list, CUTOVER_DONE is reported and the result is cleared; every walked zone is issued again with its
rezone fade code, in ascending zone number; a store write starts; the held frames are delivered under the new plan; the gate
opens; and a deferred sweep falls due. -/
def Obligations.CutoverCompletes : Prop :=
  ∀ s : State, s.Law → s.resetLow = false → s.staging = .cutting →
    let visits := fun z : Nat => (s.stagedRecord z).present && !pinned s.active.windows z
    s.walk.phase = .finished ∨ (s.walk.phase = .waiting ∧ ∀ z, visits z = false) → s.engine.current = none →
    s.sweep.phase = .idle →
    ∃ installed kept t : State, exec .cutoverCompletion s = .next t
      -- steps 1 and 2 of R156: swap and install
      ∧ installed =
        { s with active := s.staged, staged := s.active, staging := .retained, zones := installed.zones }
      ∧ (∀ z, (s.stagedRecord z).present = false → installed.zone z = .idle)
      ∧ (∀ z c, visits z = true → s.walk.stateOf z = some c →
        installed.zone z =
          { c with reportPending := (s.zone z).reportPending, outputIncomplete := false, frozen := false })
      ∧ (∀ z, (s.stagedRecord z).present = true → pinned s.active.windows z = true →
        installed.zone z =
          { s.zone z with
            level := if (s.zone z).level = 0 then 0 else max (s.stagedRecord z).minOn (s.zone z).level
            preGrace := if (s.zone z).preGrace = 0 then 0 else max (s.stagedRecord z).minOn (s.zone z).preGrace
            frozen := false })
      ∧ (let raised := (List.range' 1 255).filter fun z =>
          (s.stagedRecord z).present && pinned s.active.windows z && decide ((installed.zone z).level ≠ (s.zone z).level)
         let issued := raised.foldl (fun u z => levelIssue z (s.stagedRecord z).normalFade u) installed
         -- steps 3 to 8 of R156
         kept =
           { report .cutoverDone none
               { issued with
                 generation := if s.generation = 65535 then 1 else s.generation + 1
                 uplink :=
                   { issued.uplink with
                     reports := issued.uplink.reports.filter fun x => (s.stagedRecord x.zone).present }
                 cache := kept.cache
                 presence := kept.presence } with
             result := .cleared
             walk := Walk.none })
      ∧ (∀ e, e ∈ kept.cache ↔ e ∈ s.cache ∧ ∃ w, lookup s.staged.windows e.address = some w ∧ w.role = e.role)
      ∧ (kept.cache.map CacheEntry.address).Pairwise (· < ·)
      ∧ (∀ a, (∃ w ∈ s.staged.windows, w.supervise = true ∧ w.low ≤ a ∧ a ≤ w.high) →
        presenceEntry kept.presence a =
          some ((presenceEntry s.presence a).getD { address := a, state := .unknown, missed := 0, heard := false }))
      ∧ (∀ a, (∀ w ∈ s.staged.windows, ¬(w.supervise = true ∧ w.low ≤ a ∧ a ≤ w.high)) →
        presenceEntry kept.presence a = none)
      ∧ (kept.presence.map PresenceEntry.address).Pairwise (· < ·)
      -- R157
      ∧ (let walked := (List.range' 1 255).filter visits
         let reissued := walked.foldl (fun u z => damperIssue z (levelIssue z (s.stagedRecord z).rezoneFade u)) kept
         let released := s.walk.held.foldl deliver (startWrite reissued)
         t =
           { released with
             engine := { s.engine with gateOpen := true }
             sweep := { s.sweep with deferred := false, phase := if s.sweep.deferred then .starting else .idle } })
      -- and what follows for what the parts before may touch
      ∧ t.active = s.staged ∧ t.staged = s.active ∧ t.staging = .retained ∧ t.result = .cleared ∧ t.walk = Walk.none
      ∧ t.generation = (if s.generation = 65535 then 1 else s.generation + 1)
      ∧ t.cache = kept.cache ∧ t.presence = kept.presence
      ∧ (∀ z, (t.record z).present = false → t.zone z = .idle)
      ∧ (∀ z, (installed.zone z).SameButFlags (t.zone z) ∧ (t.zone z).reportPending = (installed.zone z).reportPending)
      ∧ t.notice .cutoverDone = (s.notice .cutoverDone).reported none
      ∧ t.store.writing = true ∧ t.settings = s.settings ∧ t.shadow = s.shadow ∧ t.deviceTime = s.deviceTime
      ∧ t.link = s.link ∧ t.slot = s.slot
      ∧ t.uplink =
        { s.uplink with
          reports := s.uplink.reports.filter fun x => (s.stagedRecord x.zone).present
          notices := t.uplink.notices }
      ∧ ∀ n, t.segment n =
        { s.segment n with commands := (t.segment n).commands, stations := (t.segment n).stations }

/-- ABORT_CUTOVER in CUTTING takes its effects as one event (R154): it discards the walk, unfreezes every zone with its timers as
they stood and returns the staging state to RETAINED after a revert and to VALIDATED otherwise, or to EDITING with STAGE_REJECTED
when a reliance lost its MAINT; CUTOVER_ABORTED is reported; the held frames are delivered in arrival order under the old plan;
the gate opens; and a deferred sweep runs, or waits for the end of the sweep in progress (R168; waiting sweeps are counted: log
entry 14). In every other state it is refused BAD_STATE. -/
def Obligations.AbortReturnsTheOldPlan : Prop :=
  ∀ (s : State) (r : Request), s.Law → s.Admits r → r.body = [14] →
    (s.staging ≠ .cutting → exec .abortCutover s = .next ({ s with slot := none }.answer r 14 .badState []))
    ∧ (s.staging = .cutting →
      let lost := s.walk.revert = false ∧ s.result.reliance = true ∧ s.maint = false
      ∃ t u : State, exec .abortCutover s = .next t ∧ t = u.answer r 14 .ok []
        ∧ u.staging = (if s.walk.revert then .retained else if lost then .editing else .validated)
        ∧ u.result =
          (if lost then { outcome := .failed, check := some .pinConflict, index := s.result.index, reliance := false }
           else s.result)
        ∧ u.walk = Walk.none ∧ u.engine = { s.engine with gateOpen := true }
        ∧ (∀ z, u.zone z = { s.zone z with frozen := false })
        ∧ u.notice .cutoverAborted = (s.notice .cutoverAborted).reported none
        ∧ u.notice .stageRejected =
          (if lost then (s.notice .stageRejected).reported none else s.notice .stageRejected)
        ∧ u.sweep =
          (if s.sweep.deferred then
             if s.sweep.phase = .idle then { s.sweep with deferred := false, phase := .starting }
             else { s.sweep with deferred := false, waiting := s.sweep.waiting + 1 }
           else s.sweep)
        ∧ (let stopped : State :=
            { s with slot := none, staging := u.staging, result := u.result, walk := Walk.none, zones := u.zones }
           let rejected := if lost then report .stageRejected none stopped else stopped
           u =
             { s.walk.held.foldl deliver (report .cutoverAborted none rejected) with
               engine := u.engine, sweep := u.sweep })
        ∧ (∀ n, u.segment n = { s.segment n with stations := (u.segment n).stations })
        ∧ u.uplink = { s.uplink with notices := u.uplink.notices })

/-! ## Zone actions, settings and other requests -/

/-- A zone action is refused BUSY while CUTTING and BAD_INDEX for a zone number 0 or above 255 or of a zone that is not present
(R74). ZONE_SET_LEVEL takes the level clamped to 0 or the min-on level to 1000: a VACANT zone stays VACANT at 0, and every other
zone is OCCUPIED with it, a hold started where it was not (R75); ZONE_FORCE lights, restarts or returns the zone as a PRESENCE
would, or vacates it (R76); ZONE_SET_DAMPER keeps the position clamped to 1000 and issues it (R77). The level is issued whether or
not it changed (R70), and a change of state is reported when the record asks for it (R94). -/
def Obligations.ZoneActionsActAsAsked : Prop :=
  ∀ (s : State) (r : Request) (z v : Nat), s.Law → s.Admits r → z ≤ 65535 → v ≤ 65535 →
    let t : State := { s with slot := none }
    let two := fun i : Nat => [byte (i / 256), byte i]
    let record := s.record z
    let old := s.zone z
    let acted := fun (command : Instr) (code : Nat) (result : Result) (after : ZoneState) =>
      let issued := levelIssue z record.normalFade (t.setZone z after)
      exec command s =
        .next
          ((if after.occupancy ≠ old.occupancy ∧ record.reportOnChange = true then queueReport z issued else issued).answer
            r code result [])
    (∀ c ∈ [(Instr.zoneSetLevel, 15, two v), (.zoneForce, 16, [byte v]), (.zoneSetDamper, 17, two v)],
      r.body = byte c.2.1 :: (two z ++ c.2.2) →
        (s.staging = .cutting → exec c.1 s = .next (t.answer r c.2.1 .busy []))
          ∧ (s.staging ≠ .cutting → z = 0 ∨ 255 < z ∨ record.present = false →
            exec c.1 s = .next (t.answer r c.2.1 .badIndex [])))
    ∧ (s.staging ≠ .cutting → 1 ≤ z → z ≤ 255 → record.present = true →
      (r.body = 15 :: (two z ++ two v) →
        let level := if v = 0 then 0 else min 1000 (max record.minOn v)
        acted .zoneSetLevel 15 (if level = v then .ok else .clamped)
          (if old.occupancy = .occupied then { old with level := level }
           else if old.occupancy = .vacant ∧ level = 0 then old
           else { old with occupancy := .occupied, hold := record.holdTime * 60, level := level, expiring := false }))
      ∧ (r.body = 16 :: (two z ++ [1]) →
        acted .zoneForce 16 .ok
          { old with
            occupancy := .occupied
            hold := record.holdTime * 60
            expiring := false
            level :=
              match old.occupancy with
              | .vacant => if record.autoOn then record.onLevel else 0
              | .occupied => old.level
              | .grace => old.preGrace })
      ∧ (r.body = 16 :: (two z ++ [0]) →
        acted .zoneForce 16 .ok { old with occupancy := .vacant, level := 0, offset := 0, expiring := false })
      ∧ (2 ≤ v → v ≤ 255 → r.body = 16 :: (two z ++ [byte v]) →
        exec .zoneForce s = .next (t.answer r 16 .refused []))
      ∧ (r.body = 17 :: (two z ++ two v) →
        exec .zoneSetDamper s =
          .next
            ((damperIssue z (t.setZone z { old with damper := some (min v 1000) })).answer r 17
              (if v ≤ 1000 then .ok else .clamped) [])))

/-- SET_PARAMETER stores a setting clamped to its range of Table 9-3 and starts a store write; a new supervision interval that the
elapsed time has reached expires the sweep timer at once, as SweepRunsItsParts says (R165), a new silence limit makes every
segment already silent so long DOWN at once (R17), and a change of a forced hold holds or releases the port (R14).
SET_CLOSED_FLOOR opens the floor only while MAINT is active and is LOCKED otherwise (R49). Both are BUSY while CUTTING and during
a store write, and REFUSED for what Table 11-6 does not name (R182). What the start of a store write leaves is in
ResetLoadAndStoreWrite. The silence is the 32-bit difference of device time and arrival second (log entry 12). -/
def Obligations.SettingsAreStored : Prop :=
  ∀ (s : State) (r : Request), s.Law → s.Admits r →
    let t : State := { s with slot := none }
    let two := fun i : Nat => [byte (i / 256), byte i]
    let stored := fun (low high v : Nat) (u : State) =>
      exec .setParameter s = .next ((startWrite u).answer r 18 (if low ≤ v ∧ v ≤ high then .ok else .clamped) [])
    (s.staging = .cutting ∨ s.store.writing = true →
      (∀ a b c d, r.body = [18, a, b, c, d] → exec .setParameter s = .next (t.answer r 18 .busy []))
        ∧ ∀ a, r.body = [19, a] → exec .setClosedFloor s = .next (t.answer r 19 .busy []))
    ∧ (s.staging ≠ .cutting → s.store.writing = false →
      (∀ (which : Byte) (v : Nat), v ≤ 65535 →
        (r.body = [18, 1, which] ++ two v →
          let interval := max 10 (min v 600)
          let u : State := { t with settings := { s.settings with supervisionInterval := interval } }
          (s.sweep.elapsed < interval → stored 10 600 v u)
            ∧ (interval ≤ s.sweep.elapsed → ∃ y : State, exec .sweepTimerExpiry u = .next y ∧ stored 10 600 v y))
        ∧ (r.body = [18, 2, which] ++ two v →
          stored 1 15 v { t with settings := { s.settings with silentLimit := max 1 (min v 15) } })
        ∧ (r.body = [18, 3, which] ++ two v →
          stored 60 3600 v { t with settings := { s.settings with staleLimit := max 60 (min v 3600) } })
        ∧ (r.body = [18, 4, which] ++ two v →
          let silent := fun n : Nat =>
            ∃ second, (s.segment n).lastArrival = some second ∧ max 2 (min v 60) ≤ (s.deviceTime - second).toNat
          ∃ u : State, stored 2 60 v u
            ∧ (∀ n, silent n → u.segment n = { s.segment n with line := .down })
            ∧ (∀ n, ¬silent n → u.segment n = s.segment n)
            ∧ (∀ c, c ≠ .segmentDown → u.notice c = s.notice c)
            ∧ ((u.notice .segmentDown).pending = true ↔
              (s.notice .segmentDown).pending = true ∨ ∃ n, silent n ∧ (s.segment n).line = .up)
            ∧ u.uplink = { s.uplink with notices := u.uplink.notices }
            ∧ u =
              { t with
                settings := { s.settings with silenceLimit := max 2 (min v 60) }
                segments := u.segments, notices := u.notices, uplink := u.uplink })
        ∧ (r.body = [18, 5, which] ++ two v →
          stored 1 32 v { t with settings := { s.settings with burstAllowance := max 1 (min v 32) } })
        ∧ (r.body = [18, 6, which] ++ two v →
          stored 1 255 v { t with settings := { s.settings with tracePrescale := max 1 (min v 255) } })
        ∧ (∀ c : Condition, which = byte c.code → r.body = [18, 7, which] ++ two v →
          stored 0 1 v
            { t with settings := { s.settings with enables := put s.settings.enables (c.code + 1) (decide (v ≠ 0)) } })
        ∧ (∀ n, 1 ≤ n → n ≤ 4 → which = byte n → r.body = [18, 8, which] ++ two v →
          let g := s.segment n
          let now := decide (v ≠ 0)
          let changed : Segment :=
            if s.forcedHold n = now then g
            else if now then (if g.hold = .released then { g with hold := .held, control := some .hold } else g)
            else if g.ingress.length < 64 then { g with hold := .released, control := some .release }
            else g
          stored 0 1 v
            { t.setSegment n changed with
              settings := { s.settings with forcedHold := put s.settings.forcedHold n now } })
        ∧ (∀ setting : Byte,
          setting = 0 ∨ 8 < setting.toNat ∨ setting = 7 ∧ 20 < which.toNat
            ∨ setting = 8 ∧ (which = 0 ∨ 4 < which.toNat) →
          r.body = [18, setting, which] ++ two v → exec .setParameter s = .next (t.answer r 18 .refused [])))
      ∧ (r.body = [19, 1] →
        exec .setClosedFloor s =
          .next ((startWrite { t with settings := { s.settings with closedFloor := true } }).answer r 19 .ok []))
      ∧ (r.body = [19, 0] →
        exec .setClosedFloor s =
          .next
            (if s.maint then
              (startWrite { t with settings := { s.settings with closedFloor := false } }).answer r 19 .ok []
             else t.answer r 19 .locked []))
      ∧ ∀ a : Byte, 1 < a.toNat → r.body = [19, a] → exec .setClosedFloor s = .next (t.answer r 19 .refused []))

/-- FLUSH_READINGS empties the point cache, but is BUSY while CUTTING (R104). CLEAR_PENDING clears the pending flags of the
conditions it names, and is REFUSED with none, more than 21, or a code that names none; CLEAR_OCCURRENCES sets the counter of
every condition not pending to 0 and clears its occurrence flag (R173). -/
def Obligations.FlushAndClearsDoOnlyThat : Prop :=
  ∀ (s : State) (r : Request), s.Admits r →
    let t : State := { s with slot := none }
    (r.body = [20] →
      (s.staging = .cutting → exec .flushReadings s = .next (t.answer r 20 .busy []))
        ∧ (s.staging ≠ .cutting → exec .flushReadings s = .next (({ t with cache := [] } : State).answer r 20 .ok [])))
    ∧ (∀ codes : List Byte, r.body = 21 :: codes →
      ((codes = [] ∨ 21 < codes.length ∨ ∃ c ∈ codes, 20 < c.toNat) →
        exec .clearPending s = .next (t.answer r 21 .refused []))
      ∧ (1 ≤ codes.length → codes.length ≤ 21 → (∀ c ∈ codes, c.toNat ≤ 20) →
        ∃ u : State, exec .clearPending s = .next (u.answer r 21 .ok [])
          ∧ (∀ c : Condition, byte c.code ∈ codes → u.notice c = { s.notice c with pending := false })
          ∧ (∀ c : Condition, byte c.code ∉ codes → u.notice c = s.notice c)
          ∧ u = { t with notices := u.notices }))
    ∧ (r.body = [22] →
      ∃ u : State, exec .clearOccurrences s = .next (u.answer r 22 .ok [])
        ∧ (∀ c, (s.notice c).pending = true → u.notice c = s.notice c)
        ∧ (∀ c, (s.notice c).pending = false → u.notice c = { s.notice c with counter := 0, occurrence := false })
        ∧ u = { t with notices := u.notices })

/-- RESTART is BUSY during a store write, and otherwise a warm restart: a walk in progress is aborted and its held frames are
discarded; ingress, command and station queues, receive counts and point cache are emptied and presence is UNKNOWN; every present
zone is lit at its on level with a full hold; a HOLD or RELEASE is requested on every segment; REHEARSING returns to VALIDATED;
the banks, the generation, the settings, the device time and the store stay (R20, R62, R116, R155, R183). From the empty command
queues and the lit zones (state `lit`) the level issue of every present zone is made, in ascending zone number with its normal
fade code, and leaves the command queues, the output-incomplete flags, the record of COMMAND_OVERFLOW and the notice queue of
state `issued` (R63, R71). The uplink is emptied before, so that the notice queue holds at most the COMMAND_OVERFLOW record of
these issues (R128); that the pending flags are cleared last, that condition's included, is the model's reading (log entry 17,
DEDUCED). Every other record of the Notice Unit is kept but for its pending flag, after the reports of the abort (R154, R174). -/
def Obligations.RestartKeepsThePlanAndLightsEveryZone : Prop :=
  ∀ (s : State) (r : Request), s.Law → s.Admits r → r.body = [23] →
    (s.store.writing = true → exec .restart s = .next (({ s with slot := none } : State).answer r 23 .busy []))
    ∧ (s.store.writing = false →
      let lost := s.staging = .cutting ∧ s.walk.revert = false ∧ s.result.reliance = true ∧ s.maint = false
      let emptied := fun n : Nat =>
        { Segment.afterReset with
          receiving := (s.segment n).receiving
          transmitting := (s.segment n).transmitting
          hold := if s.forcedHold n then .held else .released
          control := some (if s.forcedHold n then .hold else .release) }
      let bright := fun z : Nat =>
        { ZoneState.idle with
          occupancy := .occupied, hold := (s.record z).holdTime * 60, level := (s.record z).onLevel }
      let replied : Uplink :=
        { Uplink.empty with replies := if s.link = .up then [{ tag := r.tag, body := [23, 0] }] else [] }
      ∃ lit issued t : State, exec .restart s = .next t
        -- before the level issues
        ∧ (∀ n, 1 ≤ n → n ≤ 4 → lit.segment n = emptied n)
        ∧ (∀ z, lit.zone z = if (s.record z).present then bright z else .idle)
        ∧ lit.uplink = replied ∧ lit.notice .commandOverflow = s.notice .commandOverflow
        ∧ lit =
          { s with
            segments := lit.segments, engine := lit.engine, zones := lit.zones, sweep := lit.sweep, staging := lit.staging,
            result := lit.result, walk := lit.walk, notices := lit.notices, uplink := lit.uplink, slot := lit.slot }
        -- the level issues
        ∧ issued =
          ((List.range' 1 255).filter fun z => (s.record z).present).foldl
            (fun u z => levelIssue z (s.record z).normalFade u) lit
        -- and the state they leave
        ∧ t.segments = issued.segments ∧ t.zones = issued.zones ∧ t.uplink = issued.uplink
        ∧ (∀ n, 1 ≤ n → n ≤ 4 → t.segment n = { emptied n with commands := (issued.segment n).commands })
        ∧ (∀ z, (s.record z).present = false → t.zone z = .idle)
        ∧ (∀ z, (s.record z).present = true →
          t.zone z = { bright z with outputIncomplete := (issued.zone z).outputIncomplete })
        ∧ t.uplink = { replied with notices := issued.uplink.notices }
        ∧ (∀ x ∈ t.uplink.notices, x.condition = .commandOverflow) ∧ t.uplink.notices.length ≤ 1
        ∧ t.notice .commandOverflow = { issued.notice .commandOverflow with pending := false }
        ∧ t.notice .cutoverAborted =
          (let n := s.notice .cutoverAborted
           { (if s.staging = .cutting then n.reported none else n) with pending := false })
        ∧ t.notice .stageRejected =
          (let n := s.notice .stageRejected
           { (if lost then n.reported none else n) with pending := false })
        ∧ (∀ c, c ≠ .commandOverflow → c ≠ .cutoverAborted → c ≠ .stageRejected →
          t.notice c = { s.notice c with pending := false })
        ∧ t.engine = { pointer := 1, gateOpen := true, current := none, traceCount := 0 }
        ∧ t.cache = [] ∧ t.shadow = Vector.replicate 255 .idle ∧ t.slot = none ∧ t.walk = Walk.none
        ∧ t.sweep = { elapsed := 0, number := s.sweep.number, phase := .idle, waiting := 0, deferred := false }
        ∧ t.staging =
          (if s.staging = .cutting then if s.walk.revert then .retained else if lost then .editing else .validated
           else if s.staging = .rehearsing then .validated
           else s.staging)
        ∧ t.result =
          (if lost then { outcome := .failed, check := some .pinConflict, index := s.result.index, reliance := false }
           else s.result)
        ∧ (∀ a, (∃ w ∈ s.active.windows, w.supervise = true ∧ w.low ≤ a ∧ a ≤ w.high) →
          presenceEntry t.presence a = some { address := a, state := .unknown, missed := 0, heard := false })
        ∧ (∀ a, (∀ w ∈ s.active.windows, ¬(w.supervise = true ∧ w.low ≤ a ∧ a ≤ w.high)) →
          presenceEntry t.presence a = none)
        ∧ (∀ c, (t.notice c).pending = false)
        ∧ t =
          { s with
            segments := t.segments, engine := t.engine, zones := t.zones, shadow := t.shadow, cache := t.cache,
            presence := t.presence, sweep := t.sweep, staging := t.staging, result := t.result, walk := t.walk,
            notices := t.notices, uplink := t.uplink, slot := t.slot })

/-! ## Sweeps -/

/-- A sweep timer expiry starts a sweep, or makes one wait behind the sweep in progress, or defers it while CUTTING; a further one
is absorbed with REPORT_OVERRUN (R165, R166, R168). A sweep begins with the next sweep number; it makes the presence pass by Table
10-1, DEVICE_SILENT and DEVICE_RETURNED reported with each address as scope in ascending order (R167); the next present zone
computes its temperature and queues a report, in place of a waiting one with REPORT_OVERRUN (R107, R108, R169); in rehearsal the
next staged zone computes its shadow temperature (R115); and the next output-incomplete zone, not frozen, is refreshed (R72).
After each step the sweep is at the next zone, or at the next part that has something to do, or ends, and a sweep that waits then
falls due (R166, R168). That a sweep is held as a phase and waiting sweeps are counted is the model's reading (log entry 14), as
is the presence pass as one step (15); what becomes of a released deferred sweep behind another expiry or another walk is its
choice (33, 34). -/
def Obligations.SweepRunsItsParts : Prop :=
  ∀ s : State, s.Law → s.resetLow = false →
    let averaged := fun (z : ZoneState) (rs : List (Nat × Int)) =>
      if rs = [] then
        if z.status = .none then { z with count := 0, spread := 0 } else { z with status := .stale, count := 0, spread := 0 }
      else
        { z with
          temperature := some (weightedMean rs), status := .valid, count := rs.length, spread := readingSpread rs }
    (s.loading = false → s.settings.supervisionInterval ≤ s.sweep.elapsed →
      let t : State := { s with sweep := { s.sweep with elapsed := 0 } }
      exec .sweepTimerExpiry s =
        .next
          (if s.staging = .cutting then
             if s.sweep.deferred then report .reportOverrun none t
             else { t with sweep := { s.sweep with elapsed := 0, deferred := true } }
           else if s.sweep.phase = .idle then { t with sweep := { s.sweep with elapsed := 0, phase := .starting } }
           else if s.sweep.waiting = 0 then { t with sweep := { s.sweep with elapsed := 0, waiting := 1 } }
           else report .reportOverrun none t))
    ∧ (s.sweep.phase = .starting →
      exec .sweepStart s =
        .next
          { s with
            sweep :=
              { s.sweep with
                number := if s.sweep.number = 65535 then 0 else s.sweep.number + 1
                phase := .presence } })
    ∧ (s.sweep.phase = .presence →
      let examined := fun e : PresenceEntry =>
        (lookup s.active.windows e.address).any fun w => decide ((s.segment w.segment).line = .up)
      let limit := s.settings.silentLimit
      let falls := fun e : PresenceEntry =>
        examined e && !e.heard && decide (e.state = .present) && decide (limit ≤ e.missed + 1)
      let returns := fun e : PresenceEntry => examined e && e.heard && decide (e.state = .silent)
      let visited := fun e : PresenceEntry =>
        if examined e = false then e
        else if e.heard then { e with state := .present, missed := 0, heard := false }
        else
          match e.state with
          | .unknown => { e with missed := 0 }
          | .present =>
            if e.missed + 1 < limit then { e with missed := e.missed + 1 }
            else { e with state := .silent, missed := e.missed + 1 }
          | .silent => e
      let told := fun (u : State) (e : PresenceEntry) =>
        if falls e then report .deviceSilent (some e.address) u
        else if returns e then report .deviceReturned (some e.address) u
        else u
      ∃ t : State, exec .presencePass s = .next t
        ∧ (s.presence.foldl told { s with presence := s.presence.map visited }).TemperaturesGoOn 0 t)
    ∧ (∀ after z, s.sweep.phase = .temperatures after → after < z → (s.record z).present = true →
      (∀ y, after < y → y < z → (s.record y).present = false) →
      let computed := s.setZone z (averaged (s.zone z) (s.includedReadings s.active.windows z))
      let queued := queueReport z computed
      ∃ t : State, exec .zoneTemperatureComputation s = .next t
        ∧ (if s.reportWaits z then report .reportOverrun (some z) queued else queued).TemperaturesGoOn z t
        ∧ t.zone z = { averaged (s.zone z) (s.includedReadings s.active.windows z) with reportPending := true }
        ∧ (∀ y, y ≠ z → t.zone y = s.zone y)
        ∧ (∀ x, x.zone ≠ z → (x ∈ t.uplink.reports ↔ x ∈ s.uplink.reports))
        ∧ (∀ x, x.zone = z → (x ∈ t.uplink.reports ↔ x = formReport computed z))
        ∧ t.uplink = { s.uplink with reports := t.uplink.reports, notices := t.uplink.notices }
        ∧ t = { s with zones := t.zones, sweep := t.sweep, notices := t.notices, uplink := t.uplink })
    ∧ (∀ after z, s.sweep.phase = .shadow after → s.staging = .rehearsing → after < z →
      (s.stagedRecord z).present = true → (∀ y, after < y → y < z → (s.stagedRecord y).present = false) →
      ∃ t : State, exec .shadowTemperatureComputation s = .next t
        ∧ (s.setShadow z (averaged (s.shadowZone z) (s.includedReadings s.staged.windows z))).ShadowGoesOn z t
        ∧ t.shadowZone z = averaged (s.shadowZone z) (s.includedReadings s.staged.windows z)
        ∧ (∀ y, y ≠ z → t.shadowZone y = s.shadowZone y)
        ∧ t = { s with shadow := t.shadow, sweep := t.sweep })
    ∧ ∀ after z, s.sweep.phase = .refresh after → after < z →
      (let needs := fun y : Nat =>
        (s.record y).present = true ∧ (s.zone y).outputIncomplete = true ∧ (s.zone y).frozen = false
       let cleared := s.setZone z { s.zone z with outputIncomplete := false }
       needs z → (∀ y, after < y → y < z → ¬needs y) →
       ∃ t : State, exec .refresh s = .next t
        ∧ (damperIssue z (levelIssue z (s.record z).normalFade cleared)).RefreshGoesOn z t)

/-! ## Reset and the Plan Store -/

/-- A cold reset empties the part, which keeps its store image alone beside the levels of its pins, at once, which is the model's
choice for the time RESETN is low (log entry 22); its end starts device time and the store load with the trunk address strapped
(R19, R162, R176). A load takes bank, generation and settings from an image whose check agrees, or starts with the empty plan, the
defaults and STORE_INVALID from any other; it lights every present zone, and sets every port's hold state from its forced hold and
its queue (R15, R62, R162). From the lit zones and the queues that the cold reset left empty (state `lit`) the level issue of
every present zone is made, in ascending zone number with its normal fade code, and ends the event (R62, R71). A store write
starts by overwriting the image with what is in force, its check in disagreement (what the check then is, is log entry 8), and
ends with that content whole, its check the one of R2 over it (byte layout: log entry 35), or with STORE_FAILED and the check in
disagreement (R160, R161). That the other fields are as at the model's reset is its choice where log entries 8 to 10 name one. -/
def Obligations.ResetLoadAndStoreWrite : Prop :=
  ∀ s : State, s.Law →
    exec .coldReset s =
      .next
        { State.reset with
          resetLow := true, loading := false, maint := s.maint, trunkAddress := s.trunkAddress
          store := { image := s.store.image, status := .invalid, writing := false }
          pending := s.pending, freeCount := s.freeCount }
    ∧ (∀ straps : BitVec 8, s.resetLow = true →
      exec (.coldResetEnd straps) s =
        .next
          { s with
            resetLow := false, deviceTime := 0, loading := true
            trunkAddress := if straps = 0 then 1 else if straps = 255 then 254 else straps })
    ∧ (s.resetLow = false → s.loading = true →
      ∃ lit t : State, exec .loadCompletion s = .next t
        ∧ t.loading = false
        ∧ (s.store.image.agrees = true →
          t.active = s.store.image.bank ∧ t.generation = s.store.image.generation ∧ t.settings = s.store.image.settings
            ∧ t.store = { s.store with status := .valid } ∧ t.notice .storeInvalid = s.notice .storeInvalid)
        ∧ (s.store.image.agrees = false →
          t.active = Bank.empty ∧ t.generation = 0 ∧ t.settings = Settings.default
            ∧ t.store = { s.store with status := .invalid }
            ∧ t.notice .storeInvalid = (s.notice .storeInvalid).reported none)
        ∧ (let bright := fun z : Nat =>
            { ZoneState.idle with
              occupancy := .occupied, hold := (t.record z).holdTime * 60, level := (t.record z).onLevel }
           let matched := fun n : Nat =>
            let held := decide (t.forcedHold n = true ∨ 64 ≤ (s.segment n).ingress.length)
            { s.segment n with
              hold := if held then .held else .released
              control := some (if held then .hold else .release) }
           -- before the level issues
           (∀ n, (s.segment n).commands = [])
           ∧ (∀ n, 1 ≤ n → n ≤ 4 → lit.segment n = matched n)
           ∧ (∀ z, lit.zone z = if (t.record z).present then bright z else .idle)
           ∧ lit.uplink = (if s.store.image.agrees then s else report .storeInvalid none s).uplink
           ∧ lit.notice .commandOverflow = s.notice .commandOverflow
           ∧ lit =
            { t with segments := lit.segments, zones := lit.zones, notices := lit.notices, uplink := lit.uplink }
           -- the level issues, and what they leave
           ∧ t =
            ((List.range' 1 255).filter fun z => (t.record z).present).foldl
              (fun u z => levelIssue z (t.record z).normalFade u) lit
           ∧ (∀ z, (t.record z).present = false → t.zone z = .idle)
           ∧ (∀ z, (t.record z).present = true →
            t.zone z = { bright z with outputIncomplete := (t.zone z).outputIncomplete })
           ∧ ∀ n, 1 ≤ n → n ≤ 4 → t.segment n = { matched n with commands := (t.segment n).commands })
        ∧ (∀ a, (∃ w ∈ t.active.windows, w.supervise = true ∧ w.low ≤ a ∧ a ≤ w.high) →
          presenceEntry t.presence a = some { address := a, state := .unknown, missed := 0, heard := false })
        ∧ (∀ a, (∀ w ∈ t.active.windows, ¬(w.supervise = true ∧ w.low ≤ a ∧ a ≤ w.high)) →
          presenceEntry t.presence a = none)
        ∧ t.sweep = { s.sweep with elapsed := 0 }
        ∧ (∀ c, c ≠ .storeInvalid → c ≠ .commandOverflow → t.notice c = s.notice c)
        ∧ t.uplink = { s.uplink with notices := t.uplink.notices }
        ∧ t =
          { s with
            loading := false, active := t.active, generation := t.generation, settings := t.settings, store := t.store,
            zones := t.zones, segments := t.segments, presence := t.presence, sweep := t.sweep, notices := t.notices,
            uplink := t.uplink })
    ∧ (∃ i : Image, i.bank = s.active ∧ i.generation = s.generation ∧ i.settings = s.settings ∧ i.agrees = false
      ∧ startWrite s = { s with store := { image := i, status := .invalid, writing := true } })
    ∧ (s.resetLow = false → s.store.writing = true →
      (∃ i : Image, i.bank = s.active ∧ i.generation = s.generation ∧ i.settings = s.settings ∧ i.agrees = true
        ∧ exec (.storeWriteCompletion true) s =
          .next { s with store := { image := i, status := .valid, writing := false } })
      ∧ s.store.image.agrees = false
      ∧ exec (.storeWriteCompletion false) s =
        .next
          (report .storeFailed none
            { s with store := { image := s.store.image, status := .invalid, writing := false } }))
    ∧ ∀ i : Image, i.agrees = true ↔ i.check = crc16 i.bytes

end ObligationText
end

