-- ==== Sys2Proof/Laws/Occupancy.lean ====
section
/-! SUPPORT. What a level becomes where it is written (R61), and the grace and fixture levels. -/

namespace Sys2Proof.Machine

@[simp] theorem ZoneRecord.bound_zero (r : ZoneRecord) : r.bound 0 = 0 := rfl

/-- A level that keeps the law of R61 is written as it is. -/
theorem ZoneRecord.bound_of_lawful (r : ZoneRecord) {l : Nat} (h : l ≠ 0 → r.minOn ≤ l ∧ l ≤ 1000) : r.bound l = l := by
  simp only [bound]; split <;> omega

/-- Every level written keeps the law of R61. -/
theorem ZoneRecord.bound_lawful (r : ZoneRecord) (l : Nat) (h : r.minOn ≤ 1000) :
    r.bound l ≠ 0 → r.minOn ≤ r.bound l ∧ r.bound l ≤ 1000 := by
  simp only [bound]; split <;> omega

/-- A carried level at most 1000 is raised to the new min-on level (R139, R156). -/
theorem ZoneRecord.bound_carried (r : ZoneRecord) {l : Nat} (h : r.minOn ≤ 1000) (h' : l ≤ 1000) :
    r.bound l = if l = 0 then 0 else max r.minOn l := by
  simp only [bound]; split <;> omega

/-- The clamp of a ZONE_SET_LEVEL is the bound of a written level (R75). -/
theorem ZoneRecord.clampLevel_eq_bound (r : ZoneRecord) (l : Nat) : r.clampLevel l = r.bound l := rfl

end Sys2Proof.Machine
end

