-- ==== Sys2Proof/Laws/Tables.lean ====
section
/-! SUPPORT. The numbered tables and the ascending lists: reading after writing, mapping, searching, and order. -/

namespace Sys2Proof.Machine

@[simp] theorem nth_zero {α : Type} {n : Nat} (t : Vector α n) (d : α) : nth t d 0 = d := rfl

theorem nth_succ {α : Type} {n : Nat} (t : Vector α n) (d : α) (k : Nat) : nth t d (k + 1) = (t[k]?).getD d := rfl

/-- A table has no entry of a number above its size. -/
theorem nth_of_lt {α : Type} {n : Nat} (t : Vector α n) (d : α) {i : Nat} (h : n < i) : nth t d i = d := by
  obtain _ | k := i
  · rfl
  · rw [nth_succ, Vector.getElem?_eq_none (by omega)]; rfl

/-- What was put is read back. -/
theorem nth_put_same {α : Type} {n : Nat} (t : Vector α n) (d v : α) {i : Nat} (h : 1 ≤ i) (h' : i ≤ n) :
    nth (put t i v) d i = v := by
  obtain _ | k := i
  · omega
  · simp only [nth, put]
    rw [Vector.getElem?_setIfInBounds_self_of_lt (by omega)]; rfl

/-- A put leaves every other number as it was. -/
theorem nth_put_other {α : Type} {n : Nat} (t : Vector α n) (d v : α) {i j : Nat} (h : j ≠ i) :
    nth (put t i v) d j = nth t d j := by
  obtain _ | k := i
  · rfl
  · obtain _ | l := j
    · rfl
    · simp only [nth, put]
      rw [Vector.getElem?_setIfInBounds_ne (by omega)]

theorem nth_put {α : Type} {n : Nat} (t : Vector α n) (d v : α) (i j : Nat) :
    nth (put t i v) d j = if j = i ∧ 1 ≤ i ∧ i ≤ n then v else nth t d j := by
  by_cases h : j = i
  · subst h
    by_cases h' : 1 ≤ j ∧ j ≤ n
    · simp [nth_put_same t d v h'.1 h'.2, h']
    · simp only [h', and_false, if_false]
      obtain _ | k := j
      · rfl
      · rw [nth_of_lt _ _ (by omega), nth_of_lt _ _ (by omega)]
  · simp [nth_put_other t d v h, h]

/-- Putting back what a table holds changes nothing. -/
theorem put_nth {α : Type} {n : Nat} (t : Vector α n) (d : α) (i : Nat) : put t i (nth t d i) = t := by
  obtain _ | k := i
  · rfl
  · apply Vector.ext
    intro j hj
    simp only [put, nth, Vector.getElem_setIfInBounds]
    split
    · next h => subst h; simp [hj]
    · rfl

/-- An entry of a mapped table, at a number it has. -/
theorem nth_mapNumbered {α β : Type} {n : Nat} (t : Vector α n) (f : Nat → α → β) (d : α) (e : β) {i : Nat} (h : 1 ≤ i)
    (h' : i ≤ n) : nth (mapNumbered t f) e i = f i (nth t d i) := by
  obtain _ | k := i
  · omega
  · have hk : k < n := by omega
    simp [nth, mapNumbered, hk]

/-- An entry of a table whose map keeps the value read out of range. -/
theorem nth_mapNumbered_of_fixed {α : Type} {n : Nat} (t : Vector α n) (f : Nat → α → α) (d : α) (i : Nat)
    (h : i = 0 ∨ n < i → f i d = d) : nth (mapNumbered t f) d i = f i (nth t d i) := by
  by_cases hi : 1 ≤ i ∧ i ≤ n
  · exact nth_mapNumbered t f d d hi.1 hi.2
  · have ho : i = 0 ∨ n < i := by omega
    obtain rfl | hn := ho
    · simp [h (Or.inl rfl)]
    · rw [nth_of_lt _ _ hn, nth_of_lt _ _ hn, h (Or.inr hn)]

@[simp] theorem nth_replicate {α : Type} (n : Nat) (d : α) (i : Nat) : nth (Vector.replicate n d) d i = d := by
  obtain _ | k := i
  · rfl
  · rw [nth_succ]
    by_cases hk : k < n
    · simp [hk]
    · rw [Vector.getElem?_eq_none (by omega)]; rfl

@[simp] theorem mem_zoneNumbers {z : Nat} : z ∈ zoneNumbers ↔ 1 ≤ z ∧ z ≤ 255 := by
  rw [zoneNumbers, List.mem_range'_1]; omega

@[simp] theorem mem_segmentNumbers {n : Nat} : n ∈ segmentNumbers ↔ 1 ≤ n ∧ n ≤ 4 := by
  rw [segmentNumbers, List.mem_range'_1]; omega

/-- The first number of 1 to `n` for which a condition holds. -/
theorem find_range_eq_some {p : Nat → Bool} {n z : Nat} :
    (List.range' 1 n).find? p = some z ↔ 1 ≤ z ∧ z ≤ n ∧ p z = true ∧ ∀ y, 1 ≤ y → y < z → p y = false := by
  rw [List.find?_eq_some_iff_getElem]
  simp only [List.length_range', List.getElem_range', Nat.one_mul]
  constructor
  · rintro ⟨hp, i, hi, rfl, hbefore⟩
    refine ⟨by omega, by omega, hp, fun y h1 h2 => ?_⟩
    have := hbefore (y - 1) (by omega)
    rwa [show 1 + (y - 1) = y by omega, Bool.not_eq_true'] at this
  · rintro ⟨h1, h2, h3, h4⟩
    exact ⟨h3, z - 1, by omega, by omega, fun j hj => by simpa using h4 (1 + j) (by omega) (by omega)⟩

/-- The next zone is the lowest above the cursor for which the condition holds. -/
theorem nextZone_eq_some {p : Nat → Bool} {after z : Nat} :
    nextZone p after = some z ↔
      z ≤ 255 ∧ after < z ∧ p z = true ∧ ∀ y, after < y → y < z → p y = false := by
  rw [nextZone, zoneNumbers, find_range_eq_some]
  simp only [Bool.and_eq_true, decide_eq_true_eq, Bool.and_eq_false_iff, decide_eq_false_iff_not]
  constructor
  · rintro ⟨-, h2, ⟨h3, h4⟩, h5⟩
    exact ⟨h2, h3, h4, fun y hy hz => (h5 y (by omega) hz).resolve_left (by omega)⟩
  · rintro ⟨h2, h3, h4, h5⟩
    exact ⟨by omega, h2, ⟨h3, h4⟩, fun y _ hz => (Nat.lt_or_ge after y).elim (fun h => Or.inr (h5 y h hz)) (fun h => Or.inl (by omega))⟩

theorem nextZone_eq_none {p : Nat → Bool} {after : Nat} :
    nextZone p after = none ↔ ∀ z, 1 ≤ z → z ≤ 255 → after < z → p z = false := by
  simp only [nextZone, List.find?_eq_none, mem_zoneNumbers, Bool.and_eq_true, decide_eq_true_eq, not_and,
    Bool.not_eq_true]
  exact ⟨fun h z h1 h2 h3 => h z ⟨h1, h2⟩ h3, fun h z h1 h3 => h z h1.1 h1.2 h3⟩

/-- What an ascending list holds after an insertion. -/
theorem mem_insertAscending {α : Type} {key : α → Nat} {e x : α} {l : List α} (h : (l.map key).Pairwise (· < ·)) :
    x ∈ insertAscending key e l ↔ x = e ∨ x ∈ l ∧ key x ≠ key e := by
  induction l with
  | nil => simp [insertAscending]
  | cons a l ih =>
    simp only [List.map_cons, List.pairwise_cons, List.mem_map, forall_exists_index, and_imp,
      forall_apply_eq_imp_iff₂] at h
    have above : ∀ {k : Nat}, k ≤ key a → ∀ y ∈ l, key y ≠ k := fun hk y hy hc => by have := h.1 y hy; omega
    simp only [insertAscending]
    split
    · next hlt =>
      simp only [List.mem_cons]
      constructor
      · rintro (rfl | rfl | hx)
        · exact Or.inl rfl
        · exact Or.inr ⟨Or.inl rfl, by omega⟩
        · exact Or.inr ⟨Or.inr hx, above (by omega) x hx⟩
      · rintro (rfl | ⟨rfl | hx, -⟩)
        · exact Or.inl rfl
        · exact Or.inr (Or.inl rfl)
        · exact Or.inr (Or.inr hx)
    · split
      · next heq =>
        simp only [List.mem_cons]
        constructor
        · rintro (rfl | hx)
          · exact Or.inl rfl
          · exact Or.inr ⟨Or.inr hx, above (by omega) x hx⟩
        · rintro (rfl | ⟨rfl | hx, hne⟩)
          · exact Or.inl rfl
          · exact absurd heq.symm hne
          · exact Or.inr hx
      · simp only [List.mem_cons, ih h.2]
        constructor
        · rintro (rfl | rfl | hx)
          · exact Or.inr ⟨Or.inl rfl, by omega⟩
          · exact Or.inl rfl
          · exact Or.inr ⟨Or.inr hx.1, hx.2⟩
        · rintro (rfl | ⟨rfl | hx, hne⟩)
          · exact Or.inr (Or.inl rfl)
          · exact Or.inl rfl
          · exact Or.inr (Or.inr ⟨hx, hne⟩)

/-- An insertion keeps a list in strictly ascending order of its key. -/
theorem insertAscending_ascends {α : Type} {key : α → Nat} (e : α) {l : List α}
    (h : (l.map key).Pairwise (· < ·)) : ((insertAscending key e l).map key).Pairwise (· < ·) := by
  induction l with
  | nil => simp [insertAscending]
  | cons a l ih =>
    simp only [insertAscending]
    split
    · next hlt =>
      simp only [List.map_cons, List.pairwise_cons, List.mem_cons, forall_eq_or_imp] at h ⊢
      exact ⟨⟨hlt, fun k hk => hlt.trans (h.1 k hk)⟩, h⟩
    · split
      · next heq => rw [List.map_cons] at h ⊢; rwa [heq]
      · next hlt hne =>
        simp only [List.map_cons, List.pairwise_cons] at h ⊢
        refine ⟨fun k hk => ?_, ih h.2⟩
        obtain ⟨x, hx, rfl⟩ := List.mem_map.mp hk
        obtain rfl | ⟨hx, -⟩ := (mem_insertAscending h.2).mp hx
        · omega
        · exact h.1 _ (List.mem_map_of_mem hx)

/-- In an ascending list, the entry found for a key is the one entry with that key. -/
theorem find_eq_some_of_ascends {α : Type} {key : α → Nat} {l : List α} {a : Nat} {x : α}
    (h : (l.map key).Pairwise (· < ·)) : (l.find? fun e => key e == a) = some x ↔ x ∈ l ∧ key x = a := by
  constructor
  · intro hx
    exact ⟨List.mem_of_find?_eq_some hx, by simpa using List.find?_some hx⟩
  · rintro ⟨hx, rfl⟩
    induction l with
    | nil => simp at hx
    | cons b l ih =>
      simp only [List.map_cons, List.pairwise_cons] at h
      by_cases hb : key b = key x
      · rcases List.mem_cons.mp hx with rfl | hx
        · simp
        · exact absurd hb (by have := h.1 _ (List.mem_map_of_mem hx); omega)
      · rw [List.find?_cons_of_neg (by simpa using hb)]
        rcases List.mem_cons.mp hx with rfl | hx
        · exact absurd rfl hb
        · exact ih h.2 hx

/-- The point cache entry read after a report was written is the report for its address, and the entry of before for every other. -/
theorem presenceEntry_insert (e : PresenceEntry) {l : List PresenceEntry}
    (h : (l.map PresenceEntry.address).Pairwise (· < ·)) (a : Nat) :
    presenceEntry (insertAscending PresenceEntry.address e l) a = if a = e.address then some e else presenceEntry l a := by
  have h' := insertAscending_ascends e h
  apply Option.ext
  intro x
  rw [presenceEntry, find_eq_some_of_ascends h', mem_insertAscending h]
  split
  · next ha => subst ha; simp only [Option.some.injEq]; constructor <;> (intro hx; aesop)
  · next ha =>
    rw [presenceEntry, find_eq_some_of_ascends h]
    constructor
    · rintro ⟨rfl | ⟨hx, -⟩, rfl⟩
      · exact absurd rfl ha
      · exact ⟨hx, rfl⟩
    · rintro ⟨hx, rfl⟩
      exact ⟨Or.inr ⟨hx, ha⟩, rfl⟩

theorem cacheEntry_insert (e : CacheEntry) {l : List CacheEntry}
    (h : (l.map CacheEntry.address).Pairwise (· < ·)) (a : Nat) :
    cacheEntry (insertAscending CacheEntry.address e l) a = if a = e.address then some e else cacheEntry l a := by
  have h' := insertAscending_ascends e h
  apply Option.ext
  intro x
  rw [cacheEntry, find_eq_some_of_ascends h', mem_insertAscending h]
  split
  · next ha => subst ha; simp only [Option.some.injEq]; constructor <;> (intro hx; aesop)
  · next ha =>
    rw [cacheEntry, find_eq_some_of_ascends h]
    constructor
    · rintro ⟨rfl | ⟨hx, -⟩, rfl⟩
      · exact absurd rfl ha
      · exact ⟨hx, rfl⟩
    · rintro ⟨hx, rfl⟩
      exact ⟨Or.inr ⟨hx, ha⟩, rfl⟩

end Sys2Proof.Machine
end

