-- ==== Sys2Proof/Laws/State.lean ====
section
/-! SUPPORT. What each update of the state leaves in each field, so that no proof unfolds a record update. -/

namespace Sys2Proof.Machine

/-! ## Writing a segment -/

@[simp] theorem State.setSegment_resetLow (s : State) (n : Nat) (g : Segment) : (s.setSegment n g).resetLow = s.resetLow := rfl
@[simp] theorem State.setSegment_maint (s : State) (n : Nat) (g : Segment) : (s.setSegment n g).maint = s.maint := rfl
@[simp] theorem State.setSegment_trunkAddress (s : State) (n : Nat) (g : Segment) : (s.setSegment n g).trunkAddress = s.trunkAddress := rfl
@[simp] theorem State.setSegment_deviceTime (s : State) (n : Nat) (g : Segment) : (s.setSegment n g).deviceTime = s.deviceTime := rfl
@[simp] theorem State.setSegment_loading (s : State) (n : Nat) (g : Segment) : (s.setSegment n g).loading = s.loading := rfl
@[simp] theorem State.setSegment_engine (s : State) (n : Nat) (g : Segment) : (s.setSegment n g).engine = s.engine := rfl
@[simp] theorem State.setSegment_active (s : State) (n : Nat) (g : Segment) : (s.setSegment n g).active = s.active := rfl
@[simp] theorem State.setSegment_staged (s : State) (n : Nat) (g : Segment) : (s.setSegment n g).staged = s.staged := rfl
@[simp] theorem State.setSegment_generation (s : State) (n : Nat) (g : Segment) : (s.setSegment n g).generation = s.generation := rfl
@[simp] theorem State.setSegment_settings (s : State) (n : Nat) (g : Segment) : (s.setSegment n g).settings = s.settings := rfl
@[simp] theorem State.setSegment_zones (s : State) (n : Nat) (g : Segment) : (s.setSegment n g).zones = s.zones := rfl
@[simp] theorem State.setSegment_shadow (s : State) (n : Nat) (g : Segment) : (s.setSegment n g).shadow = s.shadow := rfl
@[simp] theorem State.setSegment_cache (s : State) (n : Nat) (g : Segment) : (s.setSegment n g).cache = s.cache := rfl
@[simp] theorem State.setSegment_presence (s : State) (n : Nat) (g : Segment) : (s.setSegment n g).presence = s.presence := rfl
@[simp] theorem State.setSegment_sweep (s : State) (n : Nat) (g : Segment) : (s.setSegment n g).sweep = s.sweep := rfl
@[simp] theorem State.setSegment_staging (s : State) (n : Nat) (g : Segment) : (s.setSegment n g).staging = s.staging := rfl
@[simp] theorem State.setSegment_result (s : State) (n : Nat) (g : Segment) : (s.setSegment n g).result = s.result := rfl
@[simp] theorem State.setSegment_walk (s : State) (n : Nat) (g : Segment) : (s.setSegment n g).walk = s.walk := rfl
@[simp] theorem State.setSegment_store (s : State) (n : Nat) (g : Segment) : (s.setSegment n g).store = s.store := rfl
@[simp] theorem State.setSegment_notices (s : State) (n : Nat) (g : Segment) : (s.setSegment n g).notices = s.notices := rfl
@[simp] theorem State.setSegment_uplink (s : State) (n : Nat) (g : Segment) : (s.setSegment n g).uplink = s.uplink := rfl
@[simp] theorem State.setSegment_link (s : State) (n : Nat) (g : Segment) : (s.setSegment n g).link = s.link := rfl
@[simp] theorem State.setSegment_trunkTransmitting (s : State) (n : Nat) (g : Segment) : (s.setSegment n g).trunkTransmitting = s.trunkTransmitting := rfl
@[simp] theorem State.setSegment_slot (s : State) (n : Nat) (g : Segment) : (s.setSegment n g).slot = s.slot := rfl
@[simp] theorem State.setSegment_pending (s : State) (n : Nat) (g : Segment) : (s.setSegment n g).pending = s.pending := rfl
@[simp] theorem State.setSegment_freeCount (s : State) (n : Nat) (g : Segment) : (s.setSegment n g).freeCount = s.freeCount := rfl

/-! ## Writing a zone state -/

@[simp] theorem State.setZone_resetLow (s : State) (z : Nat) (v : ZoneState) : (s.setZone z v).resetLow = s.resetLow := rfl
@[simp] theorem State.setZone_maint (s : State) (z : Nat) (v : ZoneState) : (s.setZone z v).maint = s.maint := rfl
@[simp] theorem State.setZone_trunkAddress (s : State) (z : Nat) (v : ZoneState) : (s.setZone z v).trunkAddress = s.trunkAddress := rfl
@[simp] theorem State.setZone_deviceTime (s : State) (z : Nat) (v : ZoneState) : (s.setZone z v).deviceTime = s.deviceTime := rfl
@[simp] theorem State.setZone_loading (s : State) (z : Nat) (v : ZoneState) : (s.setZone z v).loading = s.loading := rfl
@[simp] theorem State.setZone_segments (s : State) (z : Nat) (v : ZoneState) : (s.setZone z v).segments = s.segments := rfl
@[simp] theorem State.setZone_engine (s : State) (z : Nat) (v : ZoneState) : (s.setZone z v).engine = s.engine := rfl
@[simp] theorem State.setZone_active (s : State) (z : Nat) (v : ZoneState) : (s.setZone z v).active = s.active := rfl
@[simp] theorem State.setZone_staged (s : State) (z : Nat) (v : ZoneState) : (s.setZone z v).staged = s.staged := rfl
@[simp] theorem State.setZone_generation (s : State) (z : Nat) (v : ZoneState) : (s.setZone z v).generation = s.generation := rfl
@[simp] theorem State.setZone_settings (s : State) (z : Nat) (v : ZoneState) : (s.setZone z v).settings = s.settings := rfl
@[simp] theorem State.setZone_shadow (s : State) (z : Nat) (v : ZoneState) : (s.setZone z v).shadow = s.shadow := rfl
@[simp] theorem State.setZone_cache (s : State) (z : Nat) (v : ZoneState) : (s.setZone z v).cache = s.cache := rfl
@[simp] theorem State.setZone_presence (s : State) (z : Nat) (v : ZoneState) : (s.setZone z v).presence = s.presence := rfl
@[simp] theorem State.setZone_sweep (s : State) (z : Nat) (v : ZoneState) : (s.setZone z v).sweep = s.sweep := rfl
@[simp] theorem State.setZone_staging (s : State) (z : Nat) (v : ZoneState) : (s.setZone z v).staging = s.staging := rfl
@[simp] theorem State.setZone_result (s : State) (z : Nat) (v : ZoneState) : (s.setZone z v).result = s.result := rfl
@[simp] theorem State.setZone_walk (s : State) (z : Nat) (v : ZoneState) : (s.setZone z v).walk = s.walk := rfl
@[simp] theorem State.setZone_store (s : State) (z : Nat) (v : ZoneState) : (s.setZone z v).store = s.store := rfl
@[simp] theorem State.setZone_notices (s : State) (z : Nat) (v : ZoneState) : (s.setZone z v).notices = s.notices := rfl
@[simp] theorem State.setZone_uplink (s : State) (z : Nat) (v : ZoneState) : (s.setZone z v).uplink = s.uplink := rfl
@[simp] theorem State.setZone_link (s : State) (z : Nat) (v : ZoneState) : (s.setZone z v).link = s.link := rfl
@[simp] theorem State.setZone_trunkTransmitting (s : State) (z : Nat) (v : ZoneState) : (s.setZone z v).trunkTransmitting = s.trunkTransmitting := rfl
@[simp] theorem State.setZone_slot (s : State) (z : Nat) (v : ZoneState) : (s.setZone z v).slot = s.slot := rfl
@[simp] theorem State.setZone_pending (s : State) (z : Nat) (v : ZoneState) : (s.setZone z v).pending = s.pending := rfl
@[simp] theorem State.setZone_freeCount (s : State) (z : Nat) (v : ZoneState) : (s.setZone z v).freeCount = s.freeCount := rfl

/-! ## Writing a shadow zone state -/

@[simp] theorem State.setShadow_resetLow (s : State) (z : Nat) (v : ZoneState) : (s.setShadow z v).resetLow = s.resetLow := rfl
@[simp] theorem State.setShadow_maint (s : State) (z : Nat) (v : ZoneState) : (s.setShadow z v).maint = s.maint := rfl
@[simp] theorem State.setShadow_trunkAddress (s : State) (z : Nat) (v : ZoneState) : (s.setShadow z v).trunkAddress = s.trunkAddress := rfl
@[simp] theorem State.setShadow_deviceTime (s : State) (z : Nat) (v : ZoneState) : (s.setShadow z v).deviceTime = s.deviceTime := rfl
@[simp] theorem State.setShadow_loading (s : State) (z : Nat) (v : ZoneState) : (s.setShadow z v).loading = s.loading := rfl
@[simp] theorem State.setShadow_segments (s : State) (z : Nat) (v : ZoneState) : (s.setShadow z v).segments = s.segments := rfl
@[simp] theorem State.setShadow_engine (s : State) (z : Nat) (v : ZoneState) : (s.setShadow z v).engine = s.engine := rfl
@[simp] theorem State.setShadow_active (s : State) (z : Nat) (v : ZoneState) : (s.setShadow z v).active = s.active := rfl
@[simp] theorem State.setShadow_staged (s : State) (z : Nat) (v : ZoneState) : (s.setShadow z v).staged = s.staged := rfl
@[simp] theorem State.setShadow_generation (s : State) (z : Nat) (v : ZoneState) : (s.setShadow z v).generation = s.generation := rfl
@[simp] theorem State.setShadow_settings (s : State) (z : Nat) (v : ZoneState) : (s.setShadow z v).settings = s.settings := rfl
@[simp] theorem State.setShadow_zones (s : State) (z : Nat) (v : ZoneState) : (s.setShadow z v).zones = s.zones := rfl
@[simp] theorem State.setShadow_cache (s : State) (z : Nat) (v : ZoneState) : (s.setShadow z v).cache = s.cache := rfl
@[simp] theorem State.setShadow_presence (s : State) (z : Nat) (v : ZoneState) : (s.setShadow z v).presence = s.presence := rfl
@[simp] theorem State.setShadow_sweep (s : State) (z : Nat) (v : ZoneState) : (s.setShadow z v).sweep = s.sweep := rfl
@[simp] theorem State.setShadow_staging (s : State) (z : Nat) (v : ZoneState) : (s.setShadow z v).staging = s.staging := rfl
@[simp] theorem State.setShadow_result (s : State) (z : Nat) (v : ZoneState) : (s.setShadow z v).result = s.result := rfl
@[simp] theorem State.setShadow_walk (s : State) (z : Nat) (v : ZoneState) : (s.setShadow z v).walk = s.walk := rfl
@[simp] theorem State.setShadow_store (s : State) (z : Nat) (v : ZoneState) : (s.setShadow z v).store = s.store := rfl
@[simp] theorem State.setShadow_notices (s : State) (z : Nat) (v : ZoneState) : (s.setShadow z v).notices = s.notices := rfl
@[simp] theorem State.setShadow_uplink (s : State) (z : Nat) (v : ZoneState) : (s.setShadow z v).uplink = s.uplink := rfl
@[simp] theorem State.setShadow_link (s : State) (z : Nat) (v : ZoneState) : (s.setShadow z v).link = s.link := rfl
@[simp] theorem State.setShadow_trunkTransmitting (s : State) (z : Nat) (v : ZoneState) : (s.setShadow z v).trunkTransmitting = s.trunkTransmitting := rfl
@[simp] theorem State.setShadow_slot (s : State) (z : Nat) (v : ZoneState) : (s.setShadow z v).slot = s.slot := rfl
@[simp] theorem State.setShadow_pending (s : State) (z : Nat) (v : ZoneState) : (s.setShadow z v).pending = s.pending := rfl
@[simp] theorem State.setShadow_freeCount (s : State) (z : Nat) (v : ZoneState) : (s.setShadow z v).freeCount = s.freeCount := rfl

/-! ## A report of a condition -/

@[simp] theorem report_resetLow (c : Condition) (scope : Option Nat) (s : State) : (report c scope s).resetLow = s.resetLow := rfl
@[simp] theorem report_maint (c : Condition) (scope : Option Nat) (s : State) : (report c scope s).maint = s.maint := rfl
@[simp] theorem report_trunkAddress (c : Condition) (scope : Option Nat) (s : State) : (report c scope s).trunkAddress = s.trunkAddress := rfl
@[simp] theorem report_deviceTime (c : Condition) (scope : Option Nat) (s : State) : (report c scope s).deviceTime = s.deviceTime := rfl
@[simp] theorem report_loading (c : Condition) (scope : Option Nat) (s : State) : (report c scope s).loading = s.loading := rfl
@[simp] theorem report_segments (c : Condition) (scope : Option Nat) (s : State) : (report c scope s).segments = s.segments := rfl
@[simp] theorem report_engine (c : Condition) (scope : Option Nat) (s : State) : (report c scope s).engine = s.engine := rfl
@[simp] theorem report_active (c : Condition) (scope : Option Nat) (s : State) : (report c scope s).active = s.active := rfl
@[simp] theorem report_staged (c : Condition) (scope : Option Nat) (s : State) : (report c scope s).staged = s.staged := rfl
@[simp] theorem report_generation (c : Condition) (scope : Option Nat) (s : State) : (report c scope s).generation = s.generation := rfl
@[simp] theorem report_settings (c : Condition) (scope : Option Nat) (s : State) : (report c scope s).settings = s.settings := rfl
@[simp] theorem report_zones (c : Condition) (scope : Option Nat) (s : State) : (report c scope s).zones = s.zones := rfl
@[simp] theorem report_shadow (c : Condition) (scope : Option Nat) (s : State) : (report c scope s).shadow = s.shadow := rfl
@[simp] theorem report_cache (c : Condition) (scope : Option Nat) (s : State) : (report c scope s).cache = s.cache := rfl
@[simp] theorem report_presence (c : Condition) (scope : Option Nat) (s : State) : (report c scope s).presence = s.presence := rfl
@[simp] theorem report_sweep (c : Condition) (scope : Option Nat) (s : State) : (report c scope s).sweep = s.sweep := rfl
@[simp] theorem report_staging (c : Condition) (scope : Option Nat) (s : State) : (report c scope s).staging = s.staging := rfl
@[simp] theorem report_result (c : Condition) (scope : Option Nat) (s : State) : (report c scope s).result = s.result := rfl
@[simp] theorem report_walk (c : Condition) (scope : Option Nat) (s : State) : (report c scope s).walk = s.walk := rfl
@[simp] theorem report_store (c : Condition) (scope : Option Nat) (s : State) : (report c scope s).store = s.store := rfl
@[simp] theorem report_link (c : Condition) (scope : Option Nat) (s : State) : (report c scope s).link = s.link := rfl
@[simp] theorem report_trunkTransmitting (c : Condition) (scope : Option Nat) (s : State) : (report c scope s).trunkTransmitting = s.trunkTransmitting := rfl
@[simp] theorem report_slot (c : Condition) (scope : Option Nat) (s : State) : (report c scope s).slot = s.slot := rfl
@[simp] theorem report_pending (c : Condition) (scope : Option Nat) (s : State) : (report c scope s).pending = s.pending := rfl
@[simp] theorem report_freeCount (c : Condition) (scope : Option Nat) (s : State) : (report c scope s).freeCount = s.freeCount := rfl

/-! ## A reply offered -/

@[simp] theorem offerReply_resetLow (r : Reply) (s : State) : (offerReply r s).resetLow = s.resetLow := rfl
@[simp] theorem offerReply_maint (r : Reply) (s : State) : (offerReply r s).maint = s.maint := rfl
@[simp] theorem offerReply_trunkAddress (r : Reply) (s : State) : (offerReply r s).trunkAddress = s.trunkAddress := rfl
@[simp] theorem offerReply_deviceTime (r : Reply) (s : State) : (offerReply r s).deviceTime = s.deviceTime := rfl
@[simp] theorem offerReply_loading (r : Reply) (s : State) : (offerReply r s).loading = s.loading := rfl
@[simp] theorem offerReply_segments (r : Reply) (s : State) : (offerReply r s).segments = s.segments := rfl
@[simp] theorem offerReply_engine (r : Reply) (s : State) : (offerReply r s).engine = s.engine := rfl
@[simp] theorem offerReply_active (r : Reply) (s : State) : (offerReply r s).active = s.active := rfl
@[simp] theorem offerReply_staged (r : Reply) (s : State) : (offerReply r s).staged = s.staged := rfl
@[simp] theorem offerReply_generation (r : Reply) (s : State) : (offerReply r s).generation = s.generation := rfl
@[simp] theorem offerReply_settings (r : Reply) (s : State) : (offerReply r s).settings = s.settings := rfl
@[simp] theorem offerReply_zones (r : Reply) (s : State) : (offerReply r s).zones = s.zones := rfl
@[simp] theorem offerReply_shadow (r : Reply) (s : State) : (offerReply r s).shadow = s.shadow := rfl
@[simp] theorem offerReply_cache (r : Reply) (s : State) : (offerReply r s).cache = s.cache := rfl
@[simp] theorem offerReply_presence (r : Reply) (s : State) : (offerReply r s).presence = s.presence := rfl
@[simp] theorem offerReply_sweep (r : Reply) (s : State) : (offerReply r s).sweep = s.sweep := rfl
@[simp] theorem offerReply_staging (r : Reply) (s : State) : (offerReply r s).staging = s.staging := rfl
@[simp] theorem offerReply_result (r : Reply) (s : State) : (offerReply r s).result = s.result := rfl
@[simp] theorem offerReply_walk (r : Reply) (s : State) : (offerReply r s).walk = s.walk := rfl
@[simp] theorem offerReply_store (r : Reply) (s : State) : (offerReply r s).store = s.store := rfl
@[simp] theorem offerReply_notices (r : Reply) (s : State) : (offerReply r s).notices = s.notices := rfl
@[simp] theorem offerReply_link (r : Reply) (s : State) : (offerReply r s).link = s.link := rfl
@[simp] theorem offerReply_trunkTransmitting (r : Reply) (s : State) : (offerReply r s).trunkTransmitting = s.trunkTransmitting := rfl
@[simp] theorem offerReply_slot (r : Reply) (s : State) : (offerReply r s).slot = s.slot := rfl
@[simp] theorem offerReply_pending (r : Reply) (s : State) : (offerReply r s).pending = s.pending := rfl
@[simp] theorem offerReply_freeCount (r : Reply) (s : State) : (offerReply r s).freeCount = s.freeCount := rfl

/-! ## A copy offered -/

@[simp] theorem offerForward_resetLow (u : FieldUp) (s : State) : (offerForward u s).resetLow = s.resetLow := rfl
@[simp] theorem offerForward_maint (u : FieldUp) (s : State) : (offerForward u s).maint = s.maint := rfl
@[simp] theorem offerForward_trunkAddress (u : FieldUp) (s : State) : (offerForward u s).trunkAddress = s.trunkAddress := rfl
@[simp] theorem offerForward_deviceTime (u : FieldUp) (s : State) : (offerForward u s).deviceTime = s.deviceTime := rfl
@[simp] theorem offerForward_loading (u : FieldUp) (s : State) : (offerForward u s).loading = s.loading := rfl
@[simp] theorem offerForward_segments (u : FieldUp) (s : State) : (offerForward u s).segments = s.segments := rfl
@[simp] theorem offerForward_engine (u : FieldUp) (s : State) : (offerForward u s).engine = s.engine := rfl
@[simp] theorem offerForward_active (u : FieldUp) (s : State) : (offerForward u s).active = s.active := rfl
@[simp] theorem offerForward_staged (u : FieldUp) (s : State) : (offerForward u s).staged = s.staged := rfl
@[simp] theorem offerForward_generation (u : FieldUp) (s : State) : (offerForward u s).generation = s.generation := rfl
@[simp] theorem offerForward_settings (u : FieldUp) (s : State) : (offerForward u s).settings = s.settings := rfl
@[simp] theorem offerForward_zones (u : FieldUp) (s : State) : (offerForward u s).zones = s.zones := rfl
@[simp] theorem offerForward_shadow (u : FieldUp) (s : State) : (offerForward u s).shadow = s.shadow := rfl
@[simp] theorem offerForward_cache (u : FieldUp) (s : State) : (offerForward u s).cache = s.cache := rfl
@[simp] theorem offerForward_presence (u : FieldUp) (s : State) : (offerForward u s).presence = s.presence := rfl
@[simp] theorem offerForward_sweep (u : FieldUp) (s : State) : (offerForward u s).sweep = s.sweep := rfl
@[simp] theorem offerForward_staging (u : FieldUp) (s : State) : (offerForward u s).staging = s.staging := rfl
@[simp] theorem offerForward_result (u : FieldUp) (s : State) : (offerForward u s).result = s.result := rfl
@[simp] theorem offerForward_walk (u : FieldUp) (s : State) : (offerForward u s).walk = s.walk := rfl
@[simp] theorem offerForward_store (u : FieldUp) (s : State) : (offerForward u s).store = s.store := rfl
@[simp] theorem offerForward_notices (u : FieldUp) (s : State) : (offerForward u s).notices = s.notices := rfl
@[simp] theorem offerForward_link (u : FieldUp) (s : State) : (offerForward u s).link = s.link := rfl
@[simp] theorem offerForward_trunkTransmitting (u : FieldUp) (s : State) : (offerForward u s).trunkTransmitting = s.trunkTransmitting := rfl
@[simp] theorem offerForward_slot (u : FieldUp) (s : State) : (offerForward u s).slot = s.slot := rfl
@[simp] theorem offerForward_pending (u : FieldUp) (s : State) : (offerForward u s).pending = s.pending := rfl
@[simp] theorem offerForward_freeCount (u : FieldUp) (s : State) : (offerForward u s).freeCount = s.freeCount := rfl

/-! ## A trace offered -/

@[simp] theorem offerTrace_resetLow (t : Trace) (s : State) : (offerTrace t s).resetLow = s.resetLow := rfl
@[simp] theorem offerTrace_maint (t : Trace) (s : State) : (offerTrace t s).maint = s.maint := rfl
@[simp] theorem offerTrace_trunkAddress (t : Trace) (s : State) : (offerTrace t s).trunkAddress = s.trunkAddress := rfl
@[simp] theorem offerTrace_deviceTime (t : Trace) (s : State) : (offerTrace t s).deviceTime = s.deviceTime := rfl
@[simp] theorem offerTrace_loading (t : Trace) (s : State) : (offerTrace t s).loading = s.loading := rfl
@[simp] theorem offerTrace_segments (t : Trace) (s : State) : (offerTrace t s).segments = s.segments := rfl
@[simp] theorem offerTrace_engine (t : Trace) (s : State) : (offerTrace t s).engine = s.engine := rfl
@[simp] theorem offerTrace_active (t : Trace) (s : State) : (offerTrace t s).active = s.active := rfl
@[simp] theorem offerTrace_staged (t : Trace) (s : State) : (offerTrace t s).staged = s.staged := rfl
@[simp] theorem offerTrace_generation (t : Trace) (s : State) : (offerTrace t s).generation = s.generation := rfl
@[simp] theorem offerTrace_settings (t : Trace) (s : State) : (offerTrace t s).settings = s.settings := rfl
@[simp] theorem offerTrace_zones (t : Trace) (s : State) : (offerTrace t s).zones = s.zones := rfl
@[simp] theorem offerTrace_shadow (t : Trace) (s : State) : (offerTrace t s).shadow = s.shadow := rfl
@[simp] theorem offerTrace_cache (t : Trace) (s : State) : (offerTrace t s).cache = s.cache := rfl
@[simp] theorem offerTrace_presence (t : Trace) (s : State) : (offerTrace t s).presence = s.presence := rfl
@[simp] theorem offerTrace_sweep (t : Trace) (s : State) : (offerTrace t s).sweep = s.sweep := rfl
@[simp] theorem offerTrace_staging (t : Trace) (s : State) : (offerTrace t s).staging = s.staging := rfl
@[simp] theorem offerTrace_result (t : Trace) (s : State) : (offerTrace t s).result = s.result := rfl
@[simp] theorem offerTrace_walk (t : Trace) (s : State) : (offerTrace t s).walk = s.walk := rfl
@[simp] theorem offerTrace_store (t : Trace) (s : State) : (offerTrace t s).store = s.store := rfl
@[simp] theorem offerTrace_notices (t : Trace) (s : State) : (offerTrace t s).notices = s.notices := rfl
@[simp] theorem offerTrace_link (t : Trace) (s : State) : (offerTrace t s).link = s.link := rfl
@[simp] theorem offerTrace_trunkTransmitting (t : Trace) (s : State) : (offerTrace t s).trunkTransmitting = s.trunkTransmitting := rfl
@[simp] theorem offerTrace_slot (t : Trace) (s : State) : (offerTrace t s).slot = s.slot := rfl
@[simp] theorem offerTrace_pending (t : Trace) (s : State) : (offerTrace t s).pending = s.pending := rfl
@[simp] theorem offerTrace_freeCount (t : Trace) (s : State) : (offerTrace t s).freeCount = s.freeCount := rfl

/-! ## A zone report queued -/

@[simp] theorem queueReport_resetLow (z : Nat) (s : State) : (queueReport z s).resetLow = s.resetLow := rfl
@[simp] theorem queueReport_maint (z : Nat) (s : State) : (queueReport z s).maint = s.maint := rfl
@[simp] theorem queueReport_trunkAddress (z : Nat) (s : State) : (queueReport z s).trunkAddress = s.trunkAddress := rfl
@[simp] theorem queueReport_deviceTime (z : Nat) (s : State) : (queueReport z s).deviceTime = s.deviceTime := rfl
@[simp] theorem queueReport_loading (z : Nat) (s : State) : (queueReport z s).loading = s.loading := rfl
@[simp] theorem queueReport_segments (z : Nat) (s : State) : (queueReport z s).segments = s.segments := rfl
@[simp] theorem queueReport_engine (z : Nat) (s : State) : (queueReport z s).engine = s.engine := rfl
@[simp] theorem queueReport_active (z : Nat) (s : State) : (queueReport z s).active = s.active := rfl
@[simp] theorem queueReport_staged (z : Nat) (s : State) : (queueReport z s).staged = s.staged := rfl
@[simp] theorem queueReport_generation (z : Nat) (s : State) : (queueReport z s).generation = s.generation := rfl
@[simp] theorem queueReport_settings (z : Nat) (s : State) : (queueReport z s).settings = s.settings := rfl
@[simp] theorem queueReport_shadow (z : Nat) (s : State) : (queueReport z s).shadow = s.shadow := rfl
@[simp] theorem queueReport_cache (z : Nat) (s : State) : (queueReport z s).cache = s.cache := rfl
@[simp] theorem queueReport_presence (z : Nat) (s : State) : (queueReport z s).presence = s.presence := rfl
@[simp] theorem queueReport_sweep (z : Nat) (s : State) : (queueReport z s).sweep = s.sweep := rfl
@[simp] theorem queueReport_staging (z : Nat) (s : State) : (queueReport z s).staging = s.staging := rfl
@[simp] theorem queueReport_result (z : Nat) (s : State) : (queueReport z s).result = s.result := rfl
@[simp] theorem queueReport_walk (z : Nat) (s : State) : (queueReport z s).walk = s.walk := rfl
@[simp] theorem queueReport_store (z : Nat) (s : State) : (queueReport z s).store = s.store := rfl
@[simp] theorem queueReport_notices (z : Nat) (s : State) : (queueReport z s).notices = s.notices := rfl
@[simp] theorem queueReport_link (z : Nat) (s : State) : (queueReport z s).link = s.link := rfl
@[simp] theorem queueReport_trunkTransmitting (z : Nat) (s : State) : (queueReport z s).trunkTransmitting = s.trunkTransmitting := rfl
@[simp] theorem queueReport_slot (z : Nat) (s : State) : (queueReport z s).slot = s.slot := rfl
@[simp] theorem queueReport_pending (z : Nat) (s : State) : (queueReport z s).pending = s.pending := rfl
@[simp] theorem queueReport_freeCount (z : Nat) (s : State) : (queueReport z s).freeCount = s.freeCount := rfl

/-! ## An undeliverable frame -/

@[simp] theorem undeliverable_resetLow (f : FieldFrame) (s : State) : (undeliverable f s).resetLow = s.resetLow := rfl
@[simp] theorem undeliverable_maint (f : FieldFrame) (s : State) : (undeliverable f s).maint = s.maint := rfl
@[simp] theorem undeliverable_trunkAddress (f : FieldFrame) (s : State) : (undeliverable f s).trunkAddress = s.trunkAddress := rfl
@[simp] theorem undeliverable_deviceTime (f : FieldFrame) (s : State) : (undeliverable f s).deviceTime = s.deviceTime := rfl
@[simp] theorem undeliverable_loading (f : FieldFrame) (s : State) : (undeliverable f s).loading = s.loading := rfl
@[simp] theorem undeliverable_segments (f : FieldFrame) (s : State) : (undeliverable f s).segments = s.segments := rfl
@[simp] theorem undeliverable_engine (f : FieldFrame) (s : State) : (undeliverable f s).engine = s.engine := rfl
@[simp] theorem undeliverable_active (f : FieldFrame) (s : State) : (undeliverable f s).active = s.active := rfl
@[simp] theorem undeliverable_staged (f : FieldFrame) (s : State) : (undeliverable f s).staged = s.staged := rfl
@[simp] theorem undeliverable_generation (f : FieldFrame) (s : State) : (undeliverable f s).generation = s.generation := rfl
@[simp] theorem undeliverable_settings (f : FieldFrame) (s : State) : (undeliverable f s).settings = s.settings := rfl
@[simp] theorem undeliverable_zones (f : FieldFrame) (s : State) : (undeliverable f s).zones = s.zones := rfl
@[simp] theorem undeliverable_shadow (f : FieldFrame) (s : State) : (undeliverable f s).shadow = s.shadow := rfl
@[simp] theorem undeliverable_cache (f : FieldFrame) (s : State) : (undeliverable f s).cache = s.cache := rfl
@[simp] theorem undeliverable_presence (f : FieldFrame) (s : State) : (undeliverable f s).presence = s.presence := rfl
@[simp] theorem undeliverable_sweep (f : FieldFrame) (s : State) : (undeliverable f s).sweep = s.sweep := rfl
@[simp] theorem undeliverable_staging (f : FieldFrame) (s : State) : (undeliverable f s).staging = s.staging := rfl
@[simp] theorem undeliverable_result (f : FieldFrame) (s : State) : (undeliverable f s).result = s.result := rfl
@[simp] theorem undeliverable_walk (f : FieldFrame) (s : State) : (undeliverable f s).walk = s.walk := rfl
@[simp] theorem undeliverable_store (f : FieldFrame) (s : State) : (undeliverable f s).store = s.store := rfl
@[simp] theorem undeliverable_link (f : FieldFrame) (s : State) : (undeliverable f s).link = s.link := rfl
@[simp] theorem undeliverable_trunkTransmitting (f : FieldFrame) (s : State) : (undeliverable f s).trunkTransmitting = s.trunkTransmitting := rfl
@[simp] theorem undeliverable_slot (f : FieldFrame) (s : State) : (undeliverable f s).slot = s.slot := rfl
@[simp] theorem undeliverable_pending (f : FieldFrame) (s : State) : (undeliverable f s).pending = s.pending := rfl
@[simp] theorem undeliverable_freeCount (f : FieldFrame) (s : State) : (undeliverable f s).freeCount = s.freeCount := rfl

/-! ## A store write started -/

@[simp] theorem startWrite_resetLow (s : State) : (startWrite s).resetLow = s.resetLow := rfl
@[simp] theorem startWrite_maint (s : State) : (startWrite s).maint = s.maint := rfl
@[simp] theorem startWrite_trunkAddress (s : State) : (startWrite s).trunkAddress = s.trunkAddress := rfl
@[simp] theorem startWrite_deviceTime (s : State) : (startWrite s).deviceTime = s.deviceTime := rfl
@[simp] theorem startWrite_loading (s : State) : (startWrite s).loading = s.loading := rfl
@[simp] theorem startWrite_segments (s : State) : (startWrite s).segments = s.segments := rfl
@[simp] theorem startWrite_engine (s : State) : (startWrite s).engine = s.engine := rfl
@[simp] theorem startWrite_active (s : State) : (startWrite s).active = s.active := rfl
@[simp] theorem startWrite_staged (s : State) : (startWrite s).staged = s.staged := rfl
@[simp] theorem startWrite_generation (s : State) : (startWrite s).generation = s.generation := rfl
@[simp] theorem startWrite_settings (s : State) : (startWrite s).settings = s.settings := rfl
@[simp] theorem startWrite_zones (s : State) : (startWrite s).zones = s.zones := rfl
@[simp] theorem startWrite_shadow (s : State) : (startWrite s).shadow = s.shadow := rfl
@[simp] theorem startWrite_cache (s : State) : (startWrite s).cache = s.cache := rfl
@[simp] theorem startWrite_presence (s : State) : (startWrite s).presence = s.presence := rfl
@[simp] theorem startWrite_sweep (s : State) : (startWrite s).sweep = s.sweep := rfl
@[simp] theorem startWrite_staging (s : State) : (startWrite s).staging = s.staging := rfl
@[simp] theorem startWrite_result (s : State) : (startWrite s).result = s.result := rfl
@[simp] theorem startWrite_walk (s : State) : (startWrite s).walk = s.walk := rfl
@[simp] theorem startWrite_notices (s : State) : (startWrite s).notices = s.notices := rfl
@[simp] theorem startWrite_uplink (s : State) : (startWrite s).uplink = s.uplink := rfl
@[simp] theorem startWrite_link (s : State) : (startWrite s).link = s.link := rfl
@[simp] theorem startWrite_trunkTransmitting (s : State) : (startWrite s).trunkTransmitting = s.trunkTransmitting := rfl
@[simp] theorem startWrite_slot (s : State) : (startWrite s).slot = s.slot := rfl
@[simp] theorem startWrite_pending (s : State) : (startWrite s).pending = s.pending := rfl
@[simp] theorem startWrite_freeCount (s : State) : (startWrite s).freeCount = s.freeCount := rfl

/-! ## A segment fallen silent -/

@[simp] theorem fallSilent_resetLow (n : Nat) (s : State) : (fallSilent n s).resetLow = s.resetLow := rfl
@[simp] theorem fallSilent_maint (n : Nat) (s : State) : (fallSilent n s).maint = s.maint := rfl
@[simp] theorem fallSilent_trunkAddress (n : Nat) (s : State) : (fallSilent n s).trunkAddress = s.trunkAddress := rfl
@[simp] theorem fallSilent_deviceTime (n : Nat) (s : State) : (fallSilent n s).deviceTime = s.deviceTime := rfl
@[simp] theorem fallSilent_loading (n : Nat) (s : State) : (fallSilent n s).loading = s.loading := rfl
@[simp] theorem fallSilent_engine (n : Nat) (s : State) : (fallSilent n s).engine = s.engine := rfl
@[simp] theorem fallSilent_active (n : Nat) (s : State) : (fallSilent n s).active = s.active := rfl
@[simp] theorem fallSilent_staged (n : Nat) (s : State) : (fallSilent n s).staged = s.staged := rfl
@[simp] theorem fallSilent_generation (n : Nat) (s : State) : (fallSilent n s).generation = s.generation := rfl
@[simp] theorem fallSilent_settings (n : Nat) (s : State) : (fallSilent n s).settings = s.settings := rfl
@[simp] theorem fallSilent_zones (n : Nat) (s : State) : (fallSilent n s).zones = s.zones := rfl
@[simp] theorem fallSilent_shadow (n : Nat) (s : State) : (fallSilent n s).shadow = s.shadow := rfl
@[simp] theorem fallSilent_cache (n : Nat) (s : State) : (fallSilent n s).cache = s.cache := rfl
@[simp] theorem fallSilent_presence (n : Nat) (s : State) : (fallSilent n s).presence = s.presence := rfl
@[simp] theorem fallSilent_sweep (n : Nat) (s : State) : (fallSilent n s).sweep = s.sweep := rfl
@[simp] theorem fallSilent_staging (n : Nat) (s : State) : (fallSilent n s).staging = s.staging := rfl
@[simp] theorem fallSilent_result (n : Nat) (s : State) : (fallSilent n s).result = s.result := rfl
@[simp] theorem fallSilent_walk (n : Nat) (s : State) : (fallSilent n s).walk = s.walk := rfl
@[simp] theorem fallSilent_store (n : Nat) (s : State) : (fallSilent n s).store = s.store := rfl
@[simp] theorem fallSilent_link (n : Nat) (s : State) : (fallSilent n s).link = s.link := rfl
@[simp] theorem fallSilent_trunkTransmitting (n : Nat) (s : State) : (fallSilent n s).trunkTransmitting = s.trunkTransmitting := rfl
@[simp] theorem fallSilent_slot (n : Nat) (s : State) : (fallSilent n s).slot = s.slot := rfl
@[simp] theorem fallSilent_pending (n : Nat) (s : State) : (fallSilent n s).pending = s.pending := rfl
@[simp] theorem fallSilent_freeCount (n : Nat) (s : State) : (fallSilent n s).freeCount = s.freeCount := rfl

/-! ## The numbered parts read after an update -/

theorem State.segment_setSegment (s : State) (n m : Nat) (g : Segment) :
    (s.setSegment n g).segment m = if m = n ∧ 1 ≤ n ∧ n ≤ 4 then g else s.segment m :=
  nth_put s.segments .afterReset g n m

theorem State.segment_setSegment_same (s : State) {n : Nat} (g : Segment) (h : 1 ≤ n) (h' : n ≤ 4) :
    (s.setSegment n g).segment n = g :=
  nth_put_same s.segments .afterReset g h h'

@[simp] theorem State.segment_setSegment_other (s : State) {n m : Nat} (g : Segment) (h : m ≠ n) :
    (s.setSegment n g).segment m = s.segment m :=
  nth_put_other s.segments .afterReset g h

theorem State.zone_setZone (s : State) (z y : Nat) (v : ZoneState) :
    (s.setZone z v).zone y = if y = z ∧ 1 ≤ z ∧ z ≤ 255 then v else s.zone y :=
  nth_put s.zones .idle v z y

theorem State.zone_setZone_same (s : State) {z : Nat} (v : ZoneState) (h : 1 ≤ z) (h' : z ≤ 255) :
    (s.setZone z v).zone z = v :=
  nth_put_same s.zones .idle v h h'

@[simp] theorem State.zone_setZone_other (s : State) {z y : Nat} (v : ZoneState) (h : y ≠ z) :
    (s.setZone z v).zone y = s.zone y :=
  nth_put_other s.zones .idle v h

theorem State.shadowZone_setShadow (s : State) (z y : Nat) (v : ZoneState) :
    (s.setShadow z v).shadowZone y = if y = z ∧ 1 ≤ z ∧ z ≤ 255 then v else s.shadowZone y :=
  nth_put s.shadow .idle v z y

theorem State.shadowZone_setShadow_same (s : State) {z : Nat} (v : ZoneState) (h : 1 ≤ z) (h' : z ≤ 255) :
    (s.setShadow z v).shadowZone z = v :=
  nth_put_same s.shadow .idle v h h'

@[simp] theorem State.shadowZone_setShadow_other (s : State) {z y : Nat} (v : ZoneState) (h : y ≠ z) :
    (s.setShadow z v).shadowZone y = s.shadowZone y :=
  nth_put_other s.shadow .idle v h

theorem Bank.zone_put (b : Bank) (z y : Nat) (r : ZoneRecord) :
    ({ b with zones := put b.zones z r } : Bank).zone y = if y = z ∧ 1 ≤ z ∧ z ≤ 255 then r else b.zone y :=
  nth_put b.zones .cleared r z y

@[simp] theorem State.zone_setSegment (s : State) (n : Nat) (g : Segment) (z : Nat) :
    (s.setSegment n g).zone z = s.zone z := rfl
@[simp] theorem State.shadowZone_setSegment (s : State) (n : Nat) (g : Segment) (z : Nat) :
    (s.setSegment n g).shadowZone z = s.shadowZone z := rfl
@[simp] theorem State.record_setSegment (s : State) (n : Nat) (g : Segment) (z : Nat) :
    (s.setSegment n g).record z = s.record z := rfl
@[simp] theorem State.stagedRecord_setSegment (s : State) (n : Nat) (g : Segment) (z : Nat) :
    (s.setSegment n g).stagedRecord z = s.stagedRecord z := rfl
@[simp] theorem State.notice_setSegment (s : State) (n : Nat) (g : Segment) (c : Condition) :
    (s.setSegment n g).notice c = s.notice c := rfl
@[simp] theorem State.enabled_setSegment (s : State) (n : Nat) (g : Segment) (c : Condition) :
    (s.setSegment n g).enabled c = s.enabled c := rfl
@[simp] theorem State.forcedHold_setSegment (s : State) (n : Nat) (g : Segment) (m : Nat) :
    (s.setSegment n g).forcedHold m = s.forcedHold m := rfl

@[simp] theorem State.segment_setZone (s : State) (z : Nat) (v : ZoneState) (n : Nat) :
    (s.setZone z v).segment n = s.segment n := rfl
@[simp] theorem State.shadowZone_setZone (s : State) (z : Nat) (v : ZoneState) (y : Nat) :
    (s.setZone z v).shadowZone y = s.shadowZone y := rfl
@[simp] theorem State.record_setZone (s : State) (z : Nat) (v : ZoneState) (y : Nat) :
    (s.setZone z v).record y = s.record y := rfl
@[simp] theorem State.stagedRecord_setZone (s : State) (z : Nat) (v : ZoneState) (y : Nat) :
    (s.setZone z v).stagedRecord y = s.stagedRecord y := rfl
@[simp] theorem State.notice_setZone (s : State) (z : Nat) (v : ZoneState) (c : Condition) :
    (s.setZone z v).notice c = s.notice c := rfl
@[simp] theorem State.enabled_setZone (s : State) (z : Nat) (v : ZoneState) (c : Condition) :
    (s.setZone z v).enabled c = s.enabled c := rfl
@[simp] theorem State.forcedHold_setZone (s : State) (z : Nat) (v : ZoneState) (n : Nat) :
    (s.setZone z v).forcedHold n = s.forcedHold n := rfl

@[simp] theorem State.segment_setShadow (s : State) (z : Nat) (v : ZoneState) (n : Nat) :
    (s.setShadow z v).segment n = s.segment n := rfl
@[simp] theorem State.zone_setShadow (s : State) (z : Nat) (v : ZoneState) (y : Nat) :
    (s.setShadow z v).zone y = s.zone y := rfl
@[simp] theorem State.record_setShadow (s : State) (z : Nat) (v : ZoneState) (y : Nat) :
    (s.setShadow z v).record y = s.record y := rfl
@[simp] theorem State.stagedRecord_setShadow (s : State) (z : Nat) (v : ZoneState) (y : Nat) :
    (s.setShadow z v).stagedRecord y = s.stagedRecord y := rfl
@[simp] theorem State.notice_setShadow (s : State) (z : Nat) (v : ZoneState) (c : Condition) :
    (s.setShadow z v).notice c = s.notice c := rfl
@[simp] theorem State.enabled_setShadow (s : State) (z : Nat) (v : ZoneState) (c : Condition) :
    (s.setShadow z v).enabled c = s.enabled c := rfl
@[simp] theorem State.forcedHold_setShadow (s : State) (z : Nat) (v : ZoneState) (n : Nat) :
    (s.setShadow z v).forcedHold n = s.forcedHold n := rfl

@[simp] theorem segment_report (c : Condition) (scope : Option Nat) (s : State) (n : Nat) :
    (report c scope s).segment n = s.segment n := rfl
@[simp] theorem zone_report (c : Condition) (scope : Option Nat) (s : State) (z : Nat) :
    (report c scope s).zone z = s.zone z := rfl
@[simp] theorem shadowZone_report (c : Condition) (scope : Option Nat) (s : State) (z : Nat) :
    (report c scope s).shadowZone z = s.shadowZone z := rfl
@[simp] theorem record_report (c : Condition) (scope : Option Nat) (s : State) (z : Nat) :
    (report c scope s).record z = s.record z := rfl
@[simp] theorem stagedRecord_report (c : Condition) (scope : Option Nat) (s : State) (z : Nat) :
    (report c scope s).stagedRecord z = s.stagedRecord z := rfl
@[simp] theorem enabled_report (c : Condition) (scope : Option Nat) (s : State) (d : Condition) :
    (report c scope s).enabled d = s.enabled d := rfl
@[simp] theorem forcedHold_report (c : Condition) (scope : Option Nat) (s : State) (n : Nat) :
    (report c scope s).forcedHold n = s.forcedHold n := rfl

@[simp] theorem segment_offerReply (r : Reply) (s : State) (n : Nat) :
    (offerReply r s).segment n = s.segment n := rfl
@[simp] theorem zone_offerReply (r : Reply) (s : State) (z : Nat) :
    (offerReply r s).zone z = s.zone z := rfl
@[simp] theorem shadowZone_offerReply (r : Reply) (s : State) (z : Nat) :
    (offerReply r s).shadowZone z = s.shadowZone z := rfl
@[simp] theorem record_offerReply (r : Reply) (s : State) (z : Nat) :
    (offerReply r s).record z = s.record z := rfl
@[simp] theorem stagedRecord_offerReply (r : Reply) (s : State) (z : Nat) :
    (offerReply r s).stagedRecord z = s.stagedRecord z := rfl
@[simp] theorem notice_offerReply (r : Reply) (s : State) (c : Condition) :
    (offerReply r s).notice c = s.notice c := rfl
@[simp] theorem enabled_offerReply (r : Reply) (s : State) (c : Condition) :
    (offerReply r s).enabled c = s.enabled c := rfl
@[simp] theorem forcedHold_offerReply (r : Reply) (s : State) (n : Nat) :
    (offerReply r s).forcedHold n = s.forcedHold n := rfl

@[simp] theorem segment_offerForward (u : FieldUp) (s : State) (n : Nat) :
    (offerForward u s).segment n = s.segment n := rfl
@[simp] theorem zone_offerForward (u : FieldUp) (s : State) (z : Nat) :
    (offerForward u s).zone z = s.zone z := rfl
@[simp] theorem shadowZone_offerForward (u : FieldUp) (s : State) (z : Nat) :
    (offerForward u s).shadowZone z = s.shadowZone z := rfl
@[simp] theorem record_offerForward (u : FieldUp) (s : State) (z : Nat) :
    (offerForward u s).record z = s.record z := rfl
@[simp] theorem stagedRecord_offerForward (u : FieldUp) (s : State) (z : Nat) :
    (offerForward u s).stagedRecord z = s.stagedRecord z := rfl
@[simp] theorem notice_offerForward (u : FieldUp) (s : State) (c : Condition) :
    (offerForward u s).notice c = s.notice c := rfl
@[simp] theorem enabled_offerForward (u : FieldUp) (s : State) (c : Condition) :
    (offerForward u s).enabled c = s.enabled c := rfl
@[simp] theorem forcedHold_offerForward (u : FieldUp) (s : State) (n : Nat) :
    (offerForward u s).forcedHold n = s.forcedHold n := rfl

@[simp] theorem segment_offerTrace (t : Trace) (s : State) (n : Nat) :
    (offerTrace t s).segment n = s.segment n := rfl
@[simp] theorem zone_offerTrace (t : Trace) (s : State) (z : Nat) :
    (offerTrace t s).zone z = s.zone z := rfl
@[simp] theorem shadowZone_offerTrace (t : Trace) (s : State) (z : Nat) :
    (offerTrace t s).shadowZone z = s.shadowZone z := rfl
@[simp] theorem record_offerTrace (t : Trace) (s : State) (z : Nat) :
    (offerTrace t s).record z = s.record z := rfl
@[simp] theorem stagedRecord_offerTrace (t : Trace) (s : State) (z : Nat) :
    (offerTrace t s).stagedRecord z = s.stagedRecord z := rfl
@[simp] theorem notice_offerTrace (t : Trace) (s : State) (c : Condition) :
    (offerTrace t s).notice c = s.notice c := rfl
@[simp] theorem enabled_offerTrace (t : Trace) (s : State) (c : Condition) :
    (offerTrace t s).enabled c = s.enabled c := rfl
@[simp] theorem forcedHold_offerTrace (t : Trace) (s : State) (n : Nat) :
    (offerTrace t s).forcedHold n = s.forcedHold n := rfl

@[simp] theorem segment_queueReport (z : Nat) (s : State) (n : Nat) :
    (queueReport z s).segment n = s.segment n := rfl
@[simp] theorem shadowZone_queueReport (z : Nat) (s : State) (y : Nat) :
    (queueReport z s).shadowZone y = s.shadowZone y := rfl
@[simp] theorem record_queueReport (z : Nat) (s : State) (y : Nat) :
    (queueReport z s).record y = s.record y := rfl
@[simp] theorem stagedRecord_queueReport (z : Nat) (s : State) (y : Nat) :
    (queueReport z s).stagedRecord y = s.stagedRecord y := rfl
@[simp] theorem notice_queueReport (z : Nat) (s : State) (c : Condition) :
    (queueReport z s).notice c = s.notice c := rfl
@[simp] theorem enabled_queueReport (z : Nat) (s : State) (c : Condition) :
    (queueReport z s).enabled c = s.enabled c := rfl
@[simp] theorem forcedHold_queueReport (z : Nat) (s : State) (n : Nat) :
    (queueReport z s).forcedHold n = s.forcedHold n := rfl

@[simp] theorem segment_undeliverable (f : FieldFrame) (s : State) (n : Nat) :
    (undeliverable f s).segment n = s.segment n := rfl
@[simp] theorem zone_undeliverable (f : FieldFrame) (s : State) (z : Nat) :
    (undeliverable f s).zone z = s.zone z := rfl
@[simp] theorem shadowZone_undeliverable (f : FieldFrame) (s : State) (z : Nat) :
    (undeliverable f s).shadowZone z = s.shadowZone z := rfl
@[simp] theorem record_undeliverable (f : FieldFrame) (s : State) (z : Nat) :
    (undeliverable f s).record z = s.record z := rfl
@[simp] theorem stagedRecord_undeliverable (f : FieldFrame) (s : State) (z : Nat) :
    (undeliverable f s).stagedRecord z = s.stagedRecord z := rfl
@[simp] theorem enabled_undeliverable (f : FieldFrame) (s : State) (c : Condition) :
    (undeliverable f s).enabled c = s.enabled c := rfl
@[simp] theorem forcedHold_undeliverable (f : FieldFrame) (s : State) (n : Nat) :
    (undeliverable f s).forcedHold n = s.forcedHold n := rfl

@[simp] theorem segment_startWrite (s : State) (n : Nat) :
    (startWrite s).segment n = s.segment n := rfl
@[simp] theorem zone_startWrite (s : State) (z : Nat) :
    (startWrite s).zone z = s.zone z := rfl
@[simp] theorem shadowZone_startWrite (s : State) (z : Nat) :
    (startWrite s).shadowZone z = s.shadowZone z := rfl
@[simp] theorem record_startWrite (s : State) (z : Nat) :
    (startWrite s).record z = s.record z := rfl
@[simp] theorem stagedRecord_startWrite (s : State) (z : Nat) :
    (startWrite s).stagedRecord z = s.stagedRecord z := rfl
@[simp] theorem notice_startWrite (s : State) (c : Condition) :
    (startWrite s).notice c = s.notice c := rfl
@[simp] theorem enabled_startWrite (s : State) (c : Condition) :
    (startWrite s).enabled c = s.enabled c := rfl
@[simp] theorem forcedHold_startWrite (s : State) (n : Nat) :
    (startWrite s).forcedHold n = s.forcedHold n := rfl

@[simp] theorem zone_fallSilent (n : Nat) (s : State) (z : Nat) :
    (fallSilent n s).zone z = s.zone z := rfl
@[simp] theorem shadowZone_fallSilent (n : Nat) (s : State) (z : Nat) :
    (fallSilent n s).shadowZone z = s.shadowZone z := rfl
@[simp] theorem record_fallSilent (n : Nat) (s : State) (z : Nat) :
    (fallSilent n s).record z = s.record z := rfl
@[simp] theorem stagedRecord_fallSilent (n : Nat) (s : State) (z : Nat) :
    (fallSilent n s).stagedRecord z = s.stagedRecord z := rfl
@[simp] theorem enabled_fallSilent (n : Nat) (s : State) (c : Condition) :
    (fallSilent n s).enabled c = s.enabled c := rfl
@[simp] theorem forcedHold_fallSilent (n : Nat) (s : State) (m : Nat) :
    (fallSilent n s).forcedHold m = s.forcedHold m := rfl

end Sys2Proof.Machine
end

