-- ==== Sys2Proof/Laws/Ops.lean ====
section
/-! SUPPORT. What each shared operation can do, said once: a proof about a command cites these and unfolds no operation. -/

namespace Sys2Proof.Machine

/-! ## The Notice Unit -/

theorem Condition.code_lt (c : Condition) : c.code < 21 := by cases c <;> decide

theorem Condition.code_injective {c d : Condition} (h : c.code = d.code) : c = d := by
  cases c <;> cases d <;> first | rfl | simp [Condition.code] at h

/-- A report touches the record of its own condition only. -/
theorem notice_report (c d : Condition) (scope : Option Nat) (s : State) :
    (report c scope s).notice d = if d = c then (s.notice c).reported scope else s.notice d := by
  have hc := c.code_lt
  simp only [State.notice, report, nth_put]
  by_cases h : d = c
  · subst h; simp; omega
  · have : d.code ≠ c.code := fun h' => h (Condition.code_injective h')
    simp [h, this]

/-- Of the uplink a report can change the notice queue alone. -/
theorem report_uplink (c : Condition) (scope : Option Nat) (s : State) :
    (report c scope s).uplink = { s.uplink with notices := (report c scope s).uplink.notices } := by
  simp only [report]; split <;> rfl

@[simp] theorem NoticeState.reported_pending (n : NoticeState) (scope : Option Nat) :
    (n.reported scope).pending = true := by
  simp only [reported]; split <;> simp_all

@[simp] theorem NoticeState.reported_counter (n : NoticeState) (scope : Option Nat) :
    (n.reported scope).counter = advanceCount n.counter := by
  simp only [reported]; split <;> rfl

/-- Replacing an entry in place keeps the keys of a queue. -/
theorem map_replace_keys {α κ : Type} (key : α → κ) (r : α) (p : α → Prop) [DecidablePred p] (q : List α)
    (h : ∀ x ∈ q, p x → key x = key r) : (q.map fun x => if p x then r else x).map key = q.map key := by
  rw [List.map_map]
  apply List.map_congr_left
  intro x hx
  simp only [Function.comp_apply]
  split
  · next hp => exact (h x hx hp).symm
  · rfl

/-- A join keeps the keys of the notice queue distinct. -/
theorem joinNotices_nodup {q : List NoticeRecord} (r : NoticeRecord) (h : (q.map NoticeRecord.condition).Nodup) :
    ((joinNotices q r).map NoticeRecord.condition).Nodup := by
  simp only [joinNotices]
  split
  · rwa [map_replace_keys NoticeRecord.condition r _ q fun x _ hx => hx]
  · next hn =>
    simp only [List.any_eq_true, beq_iff_eq, not_exists, not_and] at hn
    rw [List.map_append, List.nodup_append]
    exact ⟨h, by simp, by simpa using hn⟩

/-- A join keeps the keys of the report queue distinct. -/
theorem joinReports_nodup {q : List ZoneReport} (r : ZoneReport) (h : (q.map ZoneReport.zone).Nodup) :
    ((joinReports q r).map ZoneReport.zone).Nodup := by
  simp only [joinReports]
  split
  · rwa [map_replace_keys ZoneReport.zone r _ q fun x _ hx => hx]
  · next hn =>
    simp only [List.any_eq_true, beq_iff_eq, not_exists, not_and] at hn
    rw [List.map_append, List.nodup_append]
    exact ⟨h, by simp, by simpa using hn⟩

/-- What waits after a report has joined: the report, and the reports of the other zones. -/
theorem mem_joinReports {q : List ZoneReport} {r x : ZoneReport} :
    x ∈ joinReports q r ↔ x = r ∨ x ∈ q ∧ x.zone ≠ r.zone := by
  simp only [joinReports]
  split
  · next h =>
    obtain ⟨y, hy, hz⟩ := List.any_eq_true.mp h
    simp only [List.mem_map]
    constructor
    · rintro ⟨v, hv, rfl⟩
      split
      · exact Or.inl rfl
      · next hne => exact Or.inr ⟨hv, hne⟩
    · rintro (rfl | ⟨hx, hne⟩)
      · exact ⟨y, hy, by simpa using fun h => absurd (by simpa using hz) h⟩
      · exact ⟨x, hx, by simp [hne]⟩
  · next h =>
    simp only [List.any_eq_true, beq_iff_eq, not_exists, not_and] at h
    simp only [List.mem_append, List.mem_singleton]
    constructor
    · rintro (hx | rfl)
      · exact Or.inr ⟨hx, h x hx⟩
      · exact Or.inl rfl
    · rintro (rfl | ⟨hx, -⟩)
      · exact Or.inr rfl
      · exact Or.inl hx

/-! ## Commands and issues -/

/-- What a command queue does with a command: it coalesces, or appends, or drops. -/
theorem acceptCommand_cases (q : List CommandEntry) (c : CommandEntry) :
    ((∃ x ∈ q, x.destination = c.destination ∧ x.kind = c.kind)
        ∧ acceptCommand q c = some (q.map fun x => if x.destination = c.destination ∧ x.kind = c.kind then c else x))
      ∨ ((∀ x ∈ q, ¬(x.destination = c.destination ∧ x.kind = c.kind)) ∧ q.length < 96
        ∧ acceptCommand q c = some (q ++ [c]))
      ∨ (∀ x ∈ q, ¬(x.destination = c.destination ∧ x.kind = c.kind)) ∧ 96 ≤ q.length ∧ acceptCommand q c = none := by
  by_cases h : ∃ x ∈ q, x.destination = c.destination ∧ x.kind = c.kind
  · refine Or.inl ⟨h, ?_⟩
    have : (q.any fun x => x.destination == c.destination && x.kind == c.kind) = true := by
      simpa [List.any_eq_true] using h
    rw [acceptCommand, if_pos this]
  · have h' : ∀ x ∈ q, ¬(x.destination = c.destination ∧ x.kind = c.kind) := fun x hx hc => h ⟨x, hx, hc⟩
    have : ¬(q.any fun x => x.destination == c.destination && x.kind == c.kind) = true := by
      simpa [List.any_eq_true] using h
    by_cases hl : q.length < 96
    · exact Or.inr (Or.inl ⟨h', hl, by rw [acceptCommand, if_neg this, if_pos hl]⟩)
    · exact Or.inr (Or.inr ⟨h', by omega, by rw [acceptCommand, if_neg this, if_neg hl]⟩)

/-- An offer writes a command queue, or reports the overflow and marks the originating zone. -/
theorem offerCommand_cases (n : Nat) (c : CommandEntry) (s : State) :
    (∃ q, acceptCommand (s.segment n).commands c = some q
        ∧ offerCommand n c s = s.setSegment n { s.segment n with commands := q })
      ∨ acceptCommand (s.segment n).commands c = none
        ∧ offerCommand n c s =
          (report .commandOverflow (some n) s).setZone c.zone { s.zone c.zone with outputIncomplete := true } := by
  simp only [offerCommand]
  split
  · next q h => exact Or.inl ⟨q, h, rfl⟩
  · next h => exact Or.inr ⟨h, rfl⟩

/-- What every offer of a list of commands keeps, the whole list keeps. -/
theorem offerCommands_induction {P : State → Prop} (cs : List (Nat × CommandEntry)) (s : State) (start : P s)
    (keep : ∀ t, ∀ c ∈ cs, P t → P (offerCommand c.1 c.2 t)) : P (offerCommands cs s) := by
  induction cs generalizing s with
  | nil => exact start
  | cons c cs ih =>
    exact ih (offerCommand c.1 c.2 s) (keep s c (List.mem_cons_self ..) start)
      fun t d hd => keep t d (List.mem_cons_of_mem _ hd)

/-- A damper issue offers the commands of the zone's position, and nothing when it is not known. -/
theorem damperIssue_cases (z : Nat) (s : State) :
    ((s.zone z).damper = none ∧ damperIssue z s = s)
      ∨ ∃ p, (s.zone z).damper = some p
        ∧ damperIssue z s = offerCommands (damperCommands s.active.windows z p) s := by
  simp only [damperIssue]
  split
  · next p h => exact Or.inr ⟨p, h, rfl⟩
  · next h => exact Or.inl ⟨h, rfl⟩

/-- Every command of a level issue carries its zone and the kind LEVEL. -/
theorem levelCommands_zone {windows : List Window} {z level fade : Nat} {c : Nat × CommandEntry}
    (h : c ∈ levelCommands windows z level fade) : c.2.zone = z ∧ c.2.kind = .level := by
  obtain ⟨m, -, rfl⟩ := List.mem_map.mp h; exact ⟨rfl, rfl⟩

/-- Every command of a damper issue carries its zone and the kind DAMPER. -/
theorem damperCommands_zone {windows : List Window} {z position : Nat} {c : Nat × CommandEntry}
    (h : c ∈ damperCommands windows z position) : c.2.zone = z ∧ c.2.kind = .damper := by
  obtain ⟨m, -, rfl⟩ := List.mem_map.mp h; exact ⟨rfl, rfl⟩

/-- The members of a role, as the manual names them. -/
theorem mem_membersOfRole {windows : List Window} {z : Nat} {role : Role} {w : Window} {a : Nat} :
    (w, a) ∈ membersOfRole windows z role ↔
      w ∈ windows ∧ w.translate = true ∧ w.zone = z ∧ w.role = role ∧ w.low ≤ a ∧ a ≤ w.high := by
  simp only [membersOfRole, List.mem_flatMap, List.mem_filter, Bool.and_eq_true, beq_iff_eq, Window.joins, List.mem_map,
    Window.addresses, List.mem_range'_1, Prod.mk.injEq]
  constructor
  · rintro ⟨v, ⟨hv, ⟨ht, hz⟩, hr⟩, b, hb, rfl, rfl⟩
    exact ⟨hv, ht, hz, hr, by omega, by omega⟩
  · rintro ⟨hw, ht, hz, hr, h1, h2⟩
    exact ⟨w, ⟨hw, ⟨ht, hz⟩, hr⟩, a, by omega, rfl, rfl⟩

/-- The members of a zone, as the manual names them. -/
theorem mem_members {windows : List Window} {z a : Nat} :
    a ∈ members windows z ↔ ∃ w ∈ windows, w.translate = true ∧ w.zone = z ∧ w.low ≤ a ∧ a ≤ w.high := by
  simp only [members, List.mem_flatMap, List.mem_filter, Window.joins, Bool.and_eq_true, beq_iff_eq, Window.addresses,
    List.mem_range'_1]
  constructor
  · rintro ⟨w, ⟨hw, ht, hz⟩, ha⟩; exact ⟨w, hw, ht, hz, by omega, by omega⟩
  · rintro ⟨w, hw, ht, hz, h1, h2⟩; exact ⟨w, ⟨hw, ht, hz⟩, by omega⟩

theorem memberOf_iff {windows : List Window} {z a : Nat} : memberOf windows z a = true ↔ a ∈ members windows z := by
  rw [mem_members]
  simp only [memberOf, List.any_eq_true, Window.joins, Window.covers, Bool.and_eq_true, beq_iff_eq, decide_eq_true_eq]
  exact ⟨fun ⟨w, hw, ⟨ht, hz⟩, h1, h2⟩ => ⟨w, hw, ht, hz, h1, h2⟩, fun ⟨w, hw, ht, hz, h1, h2⟩ => ⟨w, hw, ⟨ht, hz⟩, h1, h2⟩⟩

theorem mem_supervisedAddresses {windows : List Window} {a : Nat} :
    a ∈ supervisedAddresses windows ↔ ∃ w ∈ windows, w.supervise = true ∧ w.low ≤ a ∧ a ≤ w.high := by
  simp only [supervisedAddresses, List.mem_flatMap, List.mem_filter, Window.addresses, List.mem_range'_1]
  constructor
  · rintro ⟨w, ⟨hw, hs⟩, ha⟩; exact ⟨w, hw, hs, by omega, by omega⟩
  · rintro ⟨w, hw, hs, h1, h2⟩; exact ⟨w, ⟨hw, hs⟩, by omega⟩

/-! ## Events at a zone -/

/-- A report on change is queued, or nothing happens. -/
theorem reportOnChange_cases (before : Occupancy) (z : Nat) (s : State) :
    reportOnChange before z s = queueReport z s ∨ reportOnChange before z s = s := by
  simp only [reportOnChange]; split <;> simp

/-- An event writes its zone, makes at most one level issue and queues at most one report. -/
theorem zoneEvent_cases (z : Nat) (after : ZoneState) (s : State) :
    ∃ t, (t = s.setZone z after ∨ t = normalIssue z (s.setZone z after))
      ∧ (zoneEvent z after s = t ∨ zoneEvent z after s = queueReport z t) := by
  refine ⟨if after.level ≠ (s.zone z).level then normalIssue z (s.setZone z after) else s.setZone z after, ?_, ?_⟩
  · split <;> simp
  · simpa [zoneEvent, or_comm] using reportOnChange_cases (s.zone z).occupancy z _

/-- A shadow command changes the trace count and the trace queue at most. -/
theorem shadowCommand_cases (source : Nat) (c : CommandEntry) (s : State) :
    shadowCommand source c s = { s with engine := { s.engine with traceCount := s.engine.traceCount + 1 } }
      ∨ ∃ t, shadowCommand source c s = offerTrace t { s with engine := { s.engine with traceCount := 0 } } := by
  simp only [shadowCommand]; split
  · exact Or.inr ⟨_, rfl⟩
  · exact Or.inl rfl

/-! ## The sweep -/

theorem deferSweep_cases (s : State) :
    (s.sweep.deferred = true ∧ deferSweep s = report .reportOverrun none s)
      ∨ s.sweep.deferred = false ∧ deferSweep s = { s with sweep := { s.sweep with deferred := true } } := by
  simp only [deferSweep]; split <;> simp_all

/-- A sweep that ends leaves none in progress, or the next one due, which is deferred while CUTTING. -/
theorem endSweep_cases (s : State) :
    (s.sweep.waiting = 0 ∧ endSweep s = { s with sweep := { s.sweep with phase := .idle } })
      ∨ (s.sweep.waiting ≠ 0 ∧ s.staging = .cutting
        ∧ endSweep s = deferSweep { s with sweep := { s.sweep with phase := .idle, waiting := s.sweep.waiting - 1 } })
      ∨ s.sweep.waiting ≠ 0 ∧ s.staging ≠ .cutting
        ∧ endSweep s = { s with sweep := { s.sweep with phase := .starting, waiting := s.sweep.waiting - 1 } } := by
  simp only [endSweep]; split
  · simp_all
  · split <;> simp_all

theorem sweepTo_cases (phase : SweepPhase) (s : State) :
    (settledPhase s phase = .idle ∧ sweepTo phase s = endSweep s)
      ∨ settledPhase s phase ≠ .idle
        ∧ sweepTo phase s = { s with sweep := { s.sweep with phase := settledPhase s phase } } := by
  simp only [sweepTo]; split <;> simp_all

theorem settleSweep_cases (s : State) : settleSweep s = s ∨ settleSweep s = sweepTo s.sweep.phase s := by
  simp only [settleSweep]; split <;> simp

/-- Outside CUTTING the settling of a sweep touches nothing but the sweep. -/
theorem sweepTo_frame (phase : SweepPhase) (s : State) (h : s.staging ≠ .cutting) :
    sweepTo phase s = { s with sweep := (sweepTo phase s).sweep } := by
  obtain ⟨-, h'⟩ | ⟨-, h'⟩ := sweepTo_cases phase s
  · obtain ⟨-, he⟩ | ⟨-, hc, -⟩ | ⟨-, -, he⟩ := endSweep_cases s
    · rw [h', he]
    · exact absurd hc h
    · rw [h', he]
  · rw [h']

/-- The settling of a sweep touches the sweep, and the record and notice of REPORT_OVERRUN while CUTTING. -/
theorem sweepTo_frame_cutting (phase : SweepPhase) (s : State) :
    sweepTo phase s =
      { s with
        sweep := (sweepTo phase s).sweep, notices := (sweepTo phase s).notices, uplink := (sweepTo phase s).uplink } := by
  obtain ⟨-, h'⟩ | ⟨-, h'⟩ := sweepTo_cases phase s
  · rw [h']
    obtain ⟨-, he⟩ | ⟨-, -, he⟩ | ⟨-, -, he⟩ := endSweep_cases s
    · rw [he]
    · rw [he]
      obtain ⟨-, hd⟩ | ⟨-, hd⟩ :=
        deferSweep_cases { s with sweep := { s.sweep with phase := .idle, waiting := s.sweep.waiting - 1 } }
      · rw [hd]; rfl
      · rw [hd]
    · rw [he]
  · rw [h']

theorem releaseSweep_cases (s : State) :
    (s.sweep.deferred = false ∧ releaseSweep s = s)
      ∨ (s.sweep.deferred = true ∧ s.sweep.phase = .idle
        ∧ releaseSweep s = { s with sweep := { s.sweep with deferred := false, phase := .starting } })
      ∨ s.sweep.deferred = true ∧ s.sweep.phase ≠ .idle
        ∧ releaseSweep s = { s with sweep := { s.sweep with deferred := false, waiting := s.sweep.waiting + 1 } } := by
  simp only [releaseSweep]; split
  · split <;> simp_all
  · simp_all

theorem expireSweepTimer_cases (s : State) :
    let t := { s with sweep := { s.sweep with elapsed := 0 } }
    expireSweepTimer s = deferSweep t
      ∨ expireSweepTimer s = { t with sweep := { t.sweep with phase := .starting } }
      ∨ expireSweepTimer s = { t with sweep := { t.sweep with waiting := 1 } }
      ∨ expireSweepTimer s = report .reportOverrun none t := by
  simp only [expireSweepTimer]; split
  · simp
  · split
    · simp
    · split <;> simp

/-! ## Staging -/

/-- The staging state after leaving; rehearsal that ran has ended. -/
theorem leaveTo_cases (next : StagingState) (s : State) :
    (s.staging ≠ .rehearsing ∧ leaveTo next s = { s with staging := next })
      ∨ s.staging = .rehearsing
        ∧ leaveTo next s =
          settleSweep
            { s with
              staging := next
              shadow := Vector.replicate 255 .idle
              engine := { s.engine with current := s.engine.current.map fun t => { t with rehearsed := false } } } := by
  simp only [leaveTo]; split <;> simp_all

/-! ## The down path -/

/-- A delivery joins one station queue that has room, or is undeliverable. -/
theorem deliver_cases (s : State) (d : FieldDown) :
    (∃ n, route s d = some n ∧ (s.segment n).stations.length < 32
        ∧ deliver s d = s.setSegment n { s.segment n with stations := (s.segment n).stations ++ [d.frame] })
      ∨ deliver s d = undeliverable d.frame s := by
  simp only [deliver]; split
  · next n h => split
                · next hl => exact Or.inl ⟨n, h, hl, rfl⟩
                · exact Or.inr rfl
  · exact Or.inr rfl

/-- What every delivery keeps, the release of the hold queue keeps. -/
theorem releaseHeld_induction {P : State → Prop} (s : State)
    (start : P { s with walk := { s.walk with held := [] } }) (keep : ∀ t d, P t → P (deliver t d)) :
    P (releaseHeld s) := by
  suffices ∀ (l : List FieldDown) (t : State), P t → P (l.foldl deliver t) from this _ _ start
  intro l
  induction l with
  | nil => exact fun t h => h
  | cons d l ih => exact fun t h => ih _ (keep t d h)

theorem holdFrame_cases (s : State) (d : FieldDown) :
    (s.walk.held.length < 32
        ∧ holdFrame s d = { s with walk := { s.walk with held := s.walk.held ++ [d] } })
      ∨ holdFrame s d = undeliverable d.frame s := by
  simp only [holdFrame]; split <;> simp_all

/-! ## Requests -/

/-- A request is taken when it waits, the part runs and the reply queue has a free place. -/
theorem State.takeable_eq_some {s : State} {r : Request} :
    s.takeable = some r ↔ s.resetLow = false ∧ s.slot = some r ∧ s.uplink.replies.length < 8 := by
  simp only [takeable, running, Bool.not_eq_true']
  split <;> simp_all

/-- A management command answers the request that waits under its code, or changes nothing. -/
theorem manage_cases (code : Nat) (anyDestination duringLoad : Bool) (decision : List Byte → State → Verdict)
    (s : State) :
    manage code anyDestination duringLoad decision s = .next s
      ∨ ∃ r v, s.takeable = some r ∧ requestCode r.body = some code
        ∧ (v = decision r.body.tail { s with slot := none } ∨ ∃ x, v = refuse x { s with slot := none })
        ∧ manage code anyDestination duringLoad decision s = .next (replyTo r (byte code) v) := by
  simp only [manage]
  split
  · next r hr =>
    split
    · next hc =>
      refine Or.inr ⟨r, _, hr, hc, ?_, rfl⟩
      split
      · next x _ => exact Or.inr ⟨x, rfl⟩
      · exact Or.inl rfl
    · exact Or.inl rfl
  · exact Or.inl rfl

/-- A management command on the request of its code that passes the common tests. -/
theorem manage_taken {code : Nat} {anyDestination duringLoad : Bool} {decision : List Byte → State → Verdict}
    {s : State} {r : Request} (taken : s.takeable = some r) (named : requestCode r.body = some code)
    (passes : screenRequest r anyDestination duringLoad { s with slot := none } = none) :
    manage code anyDestination duringLoad decision s =
      .next (replyTo r (byte code) (decision r.body.tail { s with slot := none })) := by
  simp [manage, taken, named, passes]

/-- A request of the right length, to this part, outside the store load, passes the common tests. -/
theorem screenRequest_eq_none {r : Request} {anyDestination duringLoad : Bool} {s : State} (long : lengthOk r.body = true)
    (here : r.broadcast = false ∨ anyDestination = true) (quiet : s.loading = false ∨ duringLoad = true) :
    screenRequest r anyDestination duringLoad s = none := by
  rcases here with h | h <;> rcases quiet with q | q <;> simp [screenRequest, long, h, q]

/-! ## The store image (R160, R161) -/

@[simp] theorem Image.whole_bank (i : Image) : i.whole.bank = i.bank := rfl
@[simp] theorem Image.whole_generation (i : Image) : i.whole.generation = i.generation := rfl
@[simp] theorem Image.whole_settings (i : Image) : i.whole.settings = i.settings := rfl
@[simp] theorem Image.partial_bank (i : Image) : i.partial.bank = i.bank := rfl
@[simp] theorem Image.partial_generation (i : Image) : i.partial.generation = i.generation := rfl
@[simp] theorem Image.partial_settings (i : Image) : i.partial.settings = i.settings := rfl

/-- The check covers the rest of the image alone. -/
@[simp] theorem Image.bytes_check (i : Image) (c : BitVec 16) : ({ i with check := c } : Image).bytes = i.bytes := rfl

/-- "A write that ends in success leaves an image whose check agrees" (R161). -/
@[simp] theorem Image.whole_agrees (i : Image) : i.whole.agrees = true := by
  simp [Image.agrees, Image.whole]

/-- The image of a write that has not ended in success has a check that does not agree (R161). -/
@[simp] theorem Image.partial_agrees (i : Image) : i.partial.agrees = false := by
  simp [Image.agrees, Image.partial]

/-- A reply changes nothing but the reply queue. -/
theorem replyTo_frame (r : Request) (code : Byte) (v : Verdict) :
    replyTo r code v = { v.state with uplink := (replyTo r code v).uplink } := rfl

/-! ## One step -/

theorem step_cases {s s' : State} (h : step s = .next s') :
    (s.pending = [] ∧ s' = s) ∨ ∃ c rest, s.pending = c :: rest ∧ exec c { s with pending := rest } = .next s' := by
  simp only [step] at h
  split at h
  · next hp => left; exact ⟨hp, by cases h; rfl⟩
  · next c rest hp => exact Or.inr ⟨c, rest, hp, h⟩

end Sys2Proof.Machine
end

