-- ==== Sys2Proof/Laws/Safety.lean ====
section
/-! SUPPORT. The laws of a state as a check that evaluates: what holds of the zones 1 to 255 and the segments 1 to 4 holds of every
number. -/

namespace Sys2Proof.Machine

/-- Numbers outside a table read its default. -/
theorem all_of_table {α : Type} {n : Nat} (t : Vector α n) (d : α) {P : Nat → α → Prop} (outside : ∀ i, P i d)
    (inside : ∀ i : Fin n, P (i + 1) t[i]) (i : Nat) : P i (nth t d i) := by
  obtain _ | k := i
  · exact outside 0
  · by_cases h : k < n
    · simpa [nth_succ, h] using inside ⟨k, h⟩
    · rw [nth_of_lt t d (by omega)]; exact outside _

/-- The check of R61 for one zone. -/
def ZoneState.levelCheck (z : ZoneState) (r : ZoneRecord) : Bool :=
  (decide (z.occupancy ≠ .vacant) || z.level == 0 && z.offset == 0)
    && (z.level == 0 || decide (r.minOn ≤ z.level) && decide (z.level ≤ 1000))
    && (z.preGrace == 0 || decide (r.minOn ≤ z.preGrace) && decide (z.preGrace ≤ 1000))
    && decide (-300 ≤ z.offset) && decide (z.offset ≤ 300) && z.offset % 50 == 0

theorem ZoneState.levelCheck_iff (z : ZoneState) (r : ZoneRecord) : z.levelCheck r = true ↔ z.LevelLaw r := by
  simp only [levelCheck, LevelLaw, Bool.and_eq_true, Bool.or_eq_true, decide_eq_true_eq, beq_iff_eq, ne_eq]
  tauto

/-- The check of the timers of one zone. -/
def ZoneState.timerCheck (z : ZoneState) : Bool :=
  (decide (z.occupancy ≠ .occupied) || decide (1 ≤ z.hold)) && (decide (z.occupancy ≠ .grace) || decide (1 ≤ z.grace))
    && (!z.expiring || decide (z.occupancy = .occupied ∧ z.hold = 1 ∨ z.occupancy = .grace ∧ z.grace = 1))

theorem ZoneState.timerCheck_iff (z : ZoneState) : z.timerCheck = true ↔ z.TimerLaw := by
  rcases z with ⟨o, h, g, l, p, off, temp, st, c, sp, d, a, b, f, e⟩
  cases o <;> cases e <;> simp [timerCheck, TimerLaw]

/-- The check of the ranges of Table 4-2 for one zone. -/
def ZoneState.rangeCheck (z : ZoneState) : Bool :=
  z.timerCheck && decide (z.hold ≤ 7200) && decide (z.grace ≤ 300) && z.temperature.all (fun t => decide (0 ≤ t) && decide (t ≤ 5000))
    && (z.temperature.isNone == decide (z.status = .none)) && decide (z.count ≤ 32) && decide (z.spread ≤ 5000)
    && z.damper.all fun p => decide (p ≤ 1000)

theorem ZoneState.rangeCheck_iff (z : ZoneState) : z.rangeCheck = true ↔ z.InRange := by
  rw [InRange, ← timerCheck_iff, rangeCheck]
  rcases z with ⟨o, h, g, l, p, off, temp, st, c, sp, d, a, b, f, e⟩
  cases temp <;> cases d <;> simp [and_assoc]

/-- The check of the ranges of Table 3-1. -/
def Window.check (w : Window) : Bool :=
  decide (1 ≤ w.low ∧ w.low ≤ w.high ∧ w.high ≤ 4000 ∧ 1 ≤ w.segment ∧ w.segment ≤ 4 ∧ w.zone ≤ 255 ∧ 50 ≤ w.trim
    ∧ w.trim ≤ 100 ∧ 1 ≤ w.weight ∧ w.weight ≤ 15)

theorem Window.check_iff (w : Window) : w.check = true ↔ w.InRange := by simp only [check, InRange, decide_eq_true_eq]

/-- The check of the ranges of Table 4-1. -/
def ZoneRecord.check (r : ZoneRecord) : Bool :=
  decide
    ((1 ≤ r.onLevel ∧ r.onLevel ≤ 1000) ∧ (1 ≤ r.minOn ∧ r.minOn ≤ 1000) ∧ (10 ≤ r.step ∧ r.step ≤ 200)
      ∧ (1 ≤ r.holdTime ∧ r.holdTime ≤ 120) ∧ r.graceTime ≤ 300 ∧ r.gracePercent ≤ 100
      ∧ (1000 ≤ r.comfort ∧ r.comfort ≤ 3500) ∧ (1000 ≤ r.setback ∧ r.setback ≤ 3500) ∧ r.normalFade ≤ 15
      ∧ r.rezoneFade ≤ 15 ∧ r.spreadAlarm ≤ 1000)

theorem ZoneRecord.check_iff (r : ZoneRecord) : r.check = true ↔ r.InRange := by
  simp only [check, InRange, decide_eq_true_eq]

/-- The check of a stored bank. -/
def Bank.storedCheck (b : Bank) : Bool :=
  decide (b.windows.length ≤ 512) && b.windows.all Window.check && b.zones.toList.all ZoneRecord.check

theorem Bank.stored_of_check {b : Bank} (h : b.storedCheck = true) : b.Stored := by
  simp only [storedCheck, Bool.and_eq_true, decide_eq_true_eq, List.all_eq_true] at h
  refine ⟨h.1.1, fun w hw => w.check_iff.mp (h.1.2 w hw), fun z => ?_⟩
  exact all_of_table (P := fun _ r => ZoneRecord.InRange r) b.zones .cleared (fun _ => (ZoneRecord.check_iff _).mp (by decide))
    (fun i => (ZoneRecord.check_iff _).mp (h.2 _ (by simp))) z

/-- The check of a valid bank. -/
def Bank.validCheck (b : Bank) : Bool := b.storedCheck && (firstFailure b).isNone

theorem Bank.valid_of_check {b : Bank} (h : b.validCheck = true) : b.Valid := by
  simp only [validCheck, Bool.and_eq_true, Option.isNone_iff_eq_none] at h
  exact ⟨Bank.stored_of_check h.1, h.2⟩

/-- The check of the settings' ranges. -/
def Settings.check (c : Settings) : Bool :=
  decide
    ((10 ≤ c.supervisionInterval ∧ c.supervisionInterval ≤ 600) ∧ (1 ≤ c.silentLimit ∧ c.silentLimit ≤ 15)
      ∧ (60 ≤ c.staleLimit ∧ c.staleLimit ≤ 3600) ∧ (2 ≤ c.silenceLimit ∧ c.silenceLimit ≤ 60)
      ∧ (1 ≤ c.burstAllowance ∧ c.burstAllowance ≤ 32) ∧ (1 ≤ c.tracePrescale ∧ c.tracePrescale ≤ 255))

theorem Settings.check_iff (c : Settings) : c.check = true ↔ c.InRange := by
  simp only [check, InRange, decide_eq_true_eq]

/-- What the laws ask of a store image whose check agrees. -/
def Image.Lawful (i : Image) : Prop :=
  i.bank.Valid ∧ i.settings.InRange ∧ i.generation ≤ 65535 ∧ (i.generation = 0 → i.bank = Bank.empty)

/-- The check itself is no part of what the laws ask. -/
theorem Image.Lawful.checked {i : Image} (h : i.Lawful) (c : BitVec 16) : Image.Lawful { i with check := c } := h

theorem Image.Lawful.whole {i : Image} (h : i.Lawful) : i.whole.Lawful := h.checked _
theorem Image.Lawful.partial {i : Image} (h : i.Lawful) : i.partial.Lawful := h.checked _

/-- The check of a waiting command's ranges. -/
def CommandEntry.check (c : CommandEntry) : Bool :=
  decide
    ((1 ≤ c.destination ∧ c.destination ≤ 4000) ∧ c.value ≤ 1000 ∧ c.fade ≤ 15 ∧ (c.kind = .damper → c.fade = 0) ∧ 1 ≤ c.zone
      ∧ c.zone ≤ 255)

theorem CommandEntry.check_iff (c : CommandEntry) : c.check = true ↔ c.InRange := by
  simp only [check, InRange, decide_eq_true_eq]

/-- The check of every waiting command. -/
def State.commandCheck (s : State) : Bool := s.segments.toList.all fun g => g.commands.all CommandEntry.check

theorem State.commandLaw_of_check {s : State} (h : s.commandCheck = true) : s.CommandLaw := by
  simp only [commandCheck, List.all_eq_true, CommandEntry.check_iff] at h
  intro n
  exact all_of_table (P := fun _ g => ∀ c ∈ Segment.commands g, c.InRange) s.segments .afterReset (fun _ _ hc => nomatch hc)
    (fun i => h _ (by simp)) n

/-- The check of a segment's queues and counts. -/
def Segment.check (g : Segment) : Bool :=
  decide
    (g.ingress.length ≤ 128 ∧ g.commands.length ≤ 96 ∧ g.stations.length ≤ 32
      ∧ (g.commands.map fun c => (c.destination, c.kind)).Nodup ∧ g.burst ≤ 32 ∧ g.received ≤ 65535
      ∧ g.malformed ≤ 65535 ∧ g.overflow ≤ 65535)

/-- The check of one zone's runtime and shadow records under its record in the active and in the staged bank. -/
def State.zoneCheck (s : State) (n : Nat) (z shade : ZoneState) (r staged : ZoneRecord) : Bool :=
  z.levelCheck r && shade.levelCheck staged && z.rangeCheck && shade.rangeCheck && (r.present || decide (z = .idle))
    && (z.reportPending == s.reportWaits n)
    && (z.frozen == (decide (s.staging = .cutting) && (r.present && !pinned s.active.windows n)))

/-- A check of four tables row by row, the first row under number `n`: one walk along the tables, so it evaluates. -/
def rowsCheck {α β : Type} (P : Nat → α → α → β → β → Bool) : Nat → List α → List α → List β → List β → Bool
  | n, a :: as, b :: bs, c :: cs, d :: ds => P n a b c d && rowsCheck P (n + 1) as bs cs ds
  | _, _, _, _, _ => true

theorem rowsCheck_get {α β : Type} {P : Nat → α → α → β → β → Bool} :
    ∀ {n : Nat} {as bs : List α} {cs ds : List β}, rowsCheck P n as bs cs ds = true → ∀ (i : Nat) (ha : i < as.length)
      (hb : i < bs.length) (hc : i < cs.length) (hd : i < ds.length), P (n + i) as[i] bs[i] cs[i] ds[i] = true
  | n, a :: as, b :: bs, c :: cs, d :: ds, h, i, ha, hb, hc, hd => by
    simp only [rowsCheck, Bool.and_eq_true] at h
    obtain _ | i := i
    · exact h.1
    · have := rowsCheck_get h.2 i (by simpa using ha) (by simpa using hb) (by simpa using hc) (by simpa using hd)
      simpa [Nat.add_comm, Nat.add_left_comm] using this

/-- The check of the zone tables. -/
def State.zonesCheck (s : State) : Bool :=
  rowsCheck s.zoneCheck 1 s.zones.toList s.shadow.toList s.active.zones.toList s.staged.zones.toList

theorem State.zoneCheck_of_zonesCheck {s : State} (h : s.zonesCheck = true) :
    ∀ z ∈ zoneNumbers, s.zoneCheck z (s.zone z) (s.shadowZone z) (s.record z) (s.stagedRecord z) = true := by
  intro z hz
  obtain ⟨k, rfl⟩ : ∃ k, z = k + 1 := ⟨z - 1, by simp only [mem_zoneNumbers] at hz; omega⟩
  have hk : k < 255 := by simp only [mem_zoneNumbers] at hz; omega
  have := rowsCheck_get h k (by simpa using hk) (by simpa using hk) (by simpa using hk) (by simpa using hk)
  simpa [State.zone, State.shadowZone, State.record, State.stagedRecord, Bank.zone, nth_succ, hk, Nat.add_comm] using this

/-- The check of a walk. -/
def State.walkCheck (s : State) : Bool :=
  s.walk.computed.all (fun c => decide (1 ≤ c.1) && decide (c.1 ≤ 255))
    && match s.walk.phase with
      | .inactive => false
      | .waiting => decide (s.walk.cursor = 0) && decide (s.walk.computed = [])
      | .stepping =>
        s.walks s.walk.cursor
          && zoneNumbers.all fun z => (s.walk.stateOf z).isSome == (s.walks z && decide (z < s.walk.cursor))
      | .finished =>
        s.walks s.walk.cursor
          && zoneNumbers.all fun z =>
            (!decide (s.walk.cursor < z) || !s.walks z) && ((s.walk.stateOf z).isSome == s.walks z)

/-- The check of a point cache entry. -/
def State.cacheCheck (s : State) (e : CacheEntry) : Bool :=
  ((lookup s.active.windows e.address).map Window.role == some e.role) && e.implausible == e.last.implausible
    && match e.last with
      | .presence => e.role == .occupancySensor
      | .absence => e.role == .occupancySensor
      | .reading t => e.role == .temperatureSensor && decide (-4000 ≤ t) && decide (t ≤ 8500)

/-- The check of a presence entry's missed count. -/
def PresenceEntry.check (e : PresenceEntry) : Bool :=
  decide (e.missed ≤ 15 ∧ (e.state = .present → e.missed ≤ 14) ∧ (e.state = .unknown → e.missed = 0))

/-- The check of a condition's record. -/
def NoticeState.check (n : NoticeState) : Bool := decide (n.counter ≤ 65535) && (!n.pending || n.occurrence)

/-- The check of all the laws but those of the two banks and of the shadow table as a whole. -/
def State.lawCheck (s : State) : Bool :=
  s.segments.toList.all Segment.check && s.commandCheck
    && decide
      (s.uplink.replies.length ≤ 8 ∧ s.uplink.forwards.length ≤ 128 ∧ s.uplink.traces.length ≤ 64
        ∧ (s.uplink.reports.map ZoneReport.zone).Nodup ∧ (s.uplink.notices.map NoticeRecord.condition).Nodup
        ∧ s.walk.held.length ≤ 32
        ∧ (s.link = .down →
          s.uplink.replies = [] ∧ s.uplink.notices = [] ∧ s.uplink.forwards = [] ∧ s.uplink.traces = []))
    && s.zonesCheck && s.uplink.reports.all (fun r => decide (1 ≤ r.zone) && decide (r.zone ≤ 255))
    && s.walk.computed.all (fun c => c.2.levelCheck (s.stagedRecord c.1) && c.2.rangeCheck)
    && !s.store.writing && decide (s.store.status = .invalid)
    && (decide (s.generation ≠ 0) || decide (s.active = Bank.empty))
    && (!decide (s.staging = .validated ∨ s.staging = .rehearsing ∨ s.staging = .cutting) || s.result.reliance
      || (pinTest s.active s.staged).isNone)
    && (!decide (s.staging = .validated ∨ s.staging = .rehearsing) || !s.result.reliance || s.maint)
    && (if s.staging = .cutting then
          s.walkCheck && !s.engine.gateOpen
        else decide (s.walk = Walk.none) && s.engine.gateOpen && !s.sweep.deferred)
    && decide
      ((s.cache.map CacheEntry.address).Pairwise (· < ·)
        ∧ s.presence.map PresenceEntry.address = supervisedAddresses s.active.windows
        ∧ (s.presence.map PresenceEntry.address).Pairwise (· < ·))
    && s.presence.all PresenceEntry.check
    && s.cache.all s.cacheCheck && s.settings.check
    && decide
      (s.engine.traceCount ≤ 254 ∧ s.uplink.forwardDiscards ≤ 65535 ∧ s.uplink.traceDiscards ≤ 65535
        ∧ s.sweep.number ≤ 65535 ∧ s.generation ≤ 65535)
    && allConditions.all (fun c => (s.notice c).check)

theorem mem_allConditions (c : Condition) : c ∈ allConditions := by cases c <;> decide

/-- A zone's report does not wait when no report of it is in the queue. -/
theorem State.reportWaits_eq_false {s : State} {z : Nat} (h : ∀ r ∈ s.uplink.reports, r.zone ≠ z) :
    s.reportWaits z = false := by
  simpa [reportWaits] using h

/-- What holds of the zones 1 to 255, and of the default record beyond them, holds of every number. -/
theorem every_zone {P : Nat → Prop} (inside : ∀ z ∈ zoneNumbers, P z) (outside : ∀ z, z = 0 ∨ 255 < z → P z) (z : Nat) :
    P z := by
  by_cases h : z ∈ zoneNumbers
  · exact inside z h
  · exact outside z (by simp only [mem_zoneNumbers] at h; omega)

theorem State.zone_outside (s : State) {z : Nat} (h : z = 0 ∨ 255 < z) : s.zone z = .idle := by
  obtain rfl | h := h
  · rfl
  · exact nth_of_lt _ _ h

theorem State.shadowZone_outside (s : State) {z : Nat} (h : z = 0 ∨ 255 < z) : s.shadowZone z = .idle := by
  obtain rfl | h := h
  · rfl
  · exact nth_of_lt _ _ h

theorem idle_level (r : ZoneRecord) : ZoneState.idle.LevelLaw r :=
  ⟨fun _ => ⟨rfl, rfl⟩, fun h => absurd rfl h, fun h => absurd rfl h, by decide, by decide, by decide⟩

/-- No walk visits a number that is no zone's. -/
theorem State.walks_outside (s : State) {z : Nat} (h : z = 0 ∨ 255 < z) : s.walks z = false := by
  have : s.stagedRecord z = .cleared := by
    obtain rfl | h := h
    · rfl
    · exact nth_of_lt _ _ h
  simp [walks, this, ZoneRecord.cleared]

/-- A walk that passes the check has come as far as its phase says. -/
theorem State.walkLaw_of_check {s : State} (h : s.walkCheck = true) : s.WalkLaw := by
  simp only [walkCheck, Bool.and_eq_true, List.all_eq_true, decide_eq_true_eq] at h
  obtain ⟨hc, h⟩ := h
  have none_outside : ∀ z, z = 0 ∨ 255 < z → (s.walk.stateOf z).isSome = false := by
    intro z hz
    simp only [Walk.stateOf, Option.isSome_map, Option.isSome_eq_false_iff, Option.isNone_iff_eq_none, List.find?_eq_none,
      beq_iff_eq]
    intro c hm he
    have := hc c hm
    omega
  simp only [WalkLaw]
  split <;> rename_i hp <;> simp only [hp] at h
  · exact absurd h (by decide)
  · simpa using h
  · simp only [Bool.and_eq_true, List.all_eq_true, beq_iff_eq] at h
    exact ⟨h.1, every_zone h.2 fun z ho => by rw [none_outside z ho, s.walks_outside ho]; rfl⟩
  · simp only [Bool.and_eq_true, List.all_eq_true, beq_iff_eq, Bool.or_eq_true, Bool.not_eq_true',
      decide_eq_false_iff_not] at h
    exact ⟨h.1, every_zone (fun z hm hz => ((h.2 z hm).1.resolve_left (fun hn => hn hz))) fun z ho _ => s.walks_outside ho,
      every_zone (fun z hm => (h.2 z hm).2) fun z ho => by rw [none_outside z ho, s.walks_outside ho]⟩

theorem idle_inRange : ZoneState.idle.InRange := (ZoneState.rangeCheck_iff _).mp (by decide)

/-- The law of reset and store load binds no part that runs with its load done. -/
theorem State.loadLaw_of_running {s : State} (running : s.resetLow = false) (loaded : s.loading = false) : s.LoadLaw :=
  fun h => by simp [running, loaded] at h

/-- A state that passes the check keeps every law, when it keeps the law of reset and store load. -/
theorem State.law_of_check {s : State} (load : s.LoadLaw) (active : s.active.Valid) (staged : s.staged.Stored)
    (valid : s.staging ≠ .empty → s.staging ≠ .editing → s.staged.Valid)
    (shadow : s.staging ≠ .rehearsing → s.shadow = Vector.replicate 255 .idle) (image : s.store.image.Lawful)
    (h : s.lawCheck = true) : s.Law := by
  simp only [lawCheck, Bool.and_eq_true, decide_eq_true_eq, List.all_eq_true] at h
  obtain ⟨⟨⟨⟨⟨⟨⟨⟨⟨⟨⟨⟨⟨⟨⟨⟨⟨hseg, hcom⟩, hup⟩, hz⟩, hrep⟩, hcomp⟩, hwr⟩, hinv⟩, hgen⟩, hpin⟩, hrel⟩, hcut⟩, htab⟩, hpres⟩,
    hcache⟩, hset⟩, hcnt⟩, hnot⟩ := h
  have hz' : ∀ z ∈ zoneNumbers, (s.zone z).LevelLaw (s.record z) ∧ (s.shadowZone z).LevelLaw (s.stagedRecord z)
      ∧ (s.zone z).InRange ∧ (s.shadowZone z).InRange ∧ ((s.record z).present = false → s.zone z = .idle)
      ∧ (s.zone z).reportPending = s.reportWaits z
      ∧ (s.zone z).frozen = (decide (s.staging = .cutting) && ((s.record z).present && !pinned s.active.windows z)) := by
    intro z hm
    have := State.zoneCheck_of_zonesCheck hz z hm
    simp only [zoneCheck, Bool.and_eq_true, Bool.or_eq_true, decide_eq_true_eq, ZoneState.levelCheck_iff,
      ZoneState.rangeCheck_iff, beq_iff_eq] at this
    obtain ⟨⟨⟨⟨⟨⟨h1, h2⟩, h3⟩, h4⟩, h5⟩, h6⟩, h7⟩ := this
    exact ⟨h1, h2, h3, h4, fun hp => h5.resolve_left (by simp [hp]), h6, h7⟩
  have hseg' : ∀ n, Segment.check (s.segment n) = true := fun n =>
    all_of_table (P := fun _ g => Segment.check g = true) s.segments .afterReset (fun _ => by decide)
      (fun i => hseg _ (by simp)) n
  simp only [Segment.check, decide_eq_true_eq] at hseg'
  have frozen_outside : ∀ z, z = 0 ∨ 255 < z → (s.record z).present = false := by
    intro z ho
    obtain rfl | ho := ho
    · rfl
    · have : s.record z = .cleared := nth_of_lt _ _ ho
      rw [this]; rfl
  refine
    { queue := ⟨fun n => ⟨(hseg' n).1, (hseg' n).2.1, (hseg' n).2.2.1, (hseg' n).2.2.2.1⟩,
        ⟨hup.1, hup.2.1, hup.2.2.1, hup.2.2.2.1, hup.2.2.2.2.1⟩, hup.2.2.2.2.2.1, hup.2.2.2.2.2.2⟩
      command := State.commandLaw_of_check hcom
      level := ⟨?_, ?_, ?_, shadow⟩
      range := ⟨?_, ?_, ?_⟩
      idle := ?_
      plan := ⟨active, staged, valid, fun _ => image.1⟩
      store := ⟨fun hw => ?_, fun hv => ?_, fun hv => ?_⟩
      generation := ⟨?_, fun _ => image.2.2.2⟩
      pin := ?_
      reliance := ?_
      cutover := ⟨?_, ?_⟩
      table := ⟨htab.1, htab.2.2, fun a => by rw [htab.2.1], fun e he => ?_⟩
      cache := ?_
      report := ?_
      settings := ⟨s.settings.check_iff.mp hset, fun _ => image.2.1, fun n => (hseg' n).2.2.2.2.1, hcnt.1⟩
      count := ⟨fun n => (hseg' n).2.2.2.2.2, ⟨hcnt.2.1, hcnt.2.2.1⟩, ?_, hcnt.2.2.2.1, hcnt.2.2.2.2, fun _ => image.2.2.1⟩
      load := load }
  · exact every_zone (fun z hm => (hz' z hm).1) fun z ho => by rw [s.zone_outside ho]; exact idle_level _
  · exact every_zone (fun z hm => (hz' z hm).2.1) fun z ho => by rw [s.shadowZone_outside ho]; exact idle_level _
  · exact fun c hc => (ZoneState.levelCheck_iff _ _).mp (hcomp c hc).1
  · exact every_zone (fun z hm => (hz' z hm).2.2.1) fun z ho => by rw [s.zone_outside ho]; exact idle_inRange
  · exact every_zone (fun z hm => (hz' z hm).2.2.2.1) fun z ho => by rw [s.shadowZone_outside ho]; exact idle_inRange
  · exact fun c hc => (ZoneState.rangeCheck_iff _).mp (hcomp c hc).2
  · exact every_zone (fun z hm => (hz' z hm).2.2.2.2.1) fun z ho _ => s.zone_outside ho
  · simp [hw] at hwr
  · simp [hv] at hinv
  · rcases hv with hv | hv
    · simp [hv] at hwr
    · simp [hv] at hinv
  · intro h0; simpa [h0] using hgen
  · intro h1 h2; simpa [h1, h2] using hpin
  · intro h1 h2; simpa [h1, h2] using hrel
  · intro hs
    simp only [hs, if_false, Bool.and_eq_true, decide_eq_true_eq, Bool.not_eq_true'] at hcut
    refine ⟨hcut.1.1, hcut.1.2, hcut.2, ?_⟩
    exact every_zone (fun z hm => by simpa [hs] using (hz' z hm).2.2.2.2.2.2) fun z ho => by rw [s.zone_outside ho]; rfl
  · intro hs
    simp only [hs, if_true, Bool.and_eq_true, Bool.not_eq_true'] at hcut
    refine ⟨State.walkLaw_of_check hcut.1, hcut.2, by simpa using hwr, ?_⟩
    exact every_zone (fun z hm => by simpa [hs] using (hz' z hm).2.2.2.2.2.2) fun z ho => by
      rw [s.zone_outside ho, frozen_outside z ho]; rfl
  · have := hpres e he
    simpa only [PresenceEntry.check, PresenceEntry.MissedLaw, decide_eq_true_eq] using this
  · intro e he
    have := hcache e he
    simp only [cacheCheck, Bool.and_eq_true, beq_iff_eq, Option.map_eq_some_iff] at this
    obtain ⟨⟨hw, hi⟩, hl⟩ := this
    refine ⟨hw, hi, ?_⟩
    split at hl
    · next hl' => exact Or.inl ⟨by simpa using hl, Or.inl hl'⟩
    · next hl' => exact Or.inl ⟨by simpa using hl, Or.inr hl'⟩
    · next t hl' =>
      simp only [Bool.and_eq_true, beq_iff_eq, decide_eq_true_eq] at hl
      exact Or.inr ⟨hl.1.1, t, hl', hl.1.2, hl.2⟩
  · refine every_zone (fun z hm => (hz' z hm).2.2.2.2.2.1) fun z ho => ?_
    rw [s.zone_outside ho, State.reportWaits_eq_false]
    · rfl
    · intro r hr hrz; have := hrep r hr; omega
  · intro c
    have := hnot c (mem_allConditions c)
    simp only [NoticeState.check, Bool.and_eq_true, decide_eq_true_eq, Bool.or_eq_true, Bool.not_eq_true'] at this
    exact ⟨this.1, fun hp => this.2.resolve_left (by simp [hp])⟩

/-- What the laws ask of another staging state, validation result, walk, engine, sweep and store beside the same plan, zones and
tables. -/
theorem State.Law.restaged {s : State} (h : s.Law) {staging : StagingState} {result : ValidationResult} {walk : Walk}
    {engine : Engine} {sweep : Sweep} {store : Store} (maint : Bool) (slot : Option Request) (pending : List Instr)
    (running : s.resetLow = false) (loaded : s.loading = false) (idle : s.shadow = Vector.replicate 255 .idle)
    (held : walk.held.length ≤ 32)
    (computed : ∀ c ∈ walk.computed, c.2.LevelLaw (s.stagedRecord c.1) ∧ c.2.InRange)
    (valid : staging ≠ .empty → staging ≠ .editing → s.staged.Valid)
    (image : store.image.Lawful) (stored : ({ s with store } : State).StoreLaw)
    (pin : result.reliance = false → pinTest s.active s.staged = none)
    (relies : staging = .validated ∨ staging = .rehearsing → result.reliance = true → maint = true)
    (free : staging ≠ .cutting →
      walk = Walk.none ∧ engine.gateOpen = true ∧ sweep.deferred = false ∧ ∀ z, (s.zone z).frozen = false)
    (cutting : staging = .cutting →
      ({ s with walk } : State).WalkLaw ∧ engine.gateOpen = false ∧ store.writing = false
        ∧ ∀ z, (s.zone z).frozen = ((s.record z).present && !pinned s.active.windows z))
    (trace : engine.traceCount ≤ 254) (number : sweep.number ≤ 65535) :
    ({ s with
        staging, result, walk, engine, sweep, store, maint, slot, pending } : State).Law :=
  { queue := ⟨h.queue.1, h.queue.2.1, held, h.queue.2.2.2⟩
    command := h.command
    level := ⟨h.level.1, h.level.2.1, fun c hc => (computed c hc).1, fun _ => idle⟩
    range := ⟨h.range.1, h.range.2.1, fun c hc => (computed c hc).2⟩
    idle := h.idle
    plan := ⟨h.plan.1, h.plan.2.1, valid, fun _ => image.1⟩
    store := stored
    generation := ⟨h.generation.1, fun _ => image.2.2.2⟩
    pin := fun _ => pin
    reliance := relies
    cutover := ⟨free, cutting⟩
    table := h.table
    cache := h.cache
    report := h.report
    settings := ⟨h.settings.1, fun _ => image.2.1, h.settings.2.2.1, trace⟩
    count := ⟨h.count.1, h.count.2.1, h.count.2.2.1, number, h.count.2.2.2.2.1, fun _ => image.2.2.1⟩
    load := State.loadLaw_of_running running loaded }

end Sys2Proof.Machine
end

