-- ==== Sys2Proof/Tests/Slice0.lean ====
section
/-! SUPPORT. Tests: worked examples of the manual, and for every statement a state and operands that meet its premises. -/

namespace Sys2Proof.Tests

set_option Elab.async false

open Sys2Proof.Machine

/-! ## A small floor

Zone 1 is OCCUPIED with the expiry of its hold due and fresh presence, zone 2 is VACANT, zone 3 is in GRACE with its expiry due, zone 4 is
OCCUPIED without fresh presence with its expiry due, and zone 5 is pinned. -/

/-- A Translate window with trim 100 and weight 1. -/
def window (low high segment zone : Nat) (role : Role) : Window :=
  { low, high, segment, zone, role, trim := 100, weight := 1, translate := true, forward := false, station := false,
    supervise := false, pin := false }

/-- A zone record that differs from the defaults in being present. -/
def room : ZoneRecord := { ZoneRecord.cleared with present := true }

/-- A classifier entry that matches kind 1 frames of a point, of any value. -/
def pointEntry (point : BitVec 8) (cls : FrameClass) : ClassifierEntry :=
  { ClassifierEntry.cleared with
    present := true, kindPattern := 1, kindMask := 15, pointPattern := point, pointMask := 255, cls := cls }

def plan : Bank :=
  { windows :=
      [window 100 101 1 1 .luminaire, { window 102 102 1 1 .occupancySensor with supervise := true },
        window 103 103 2 1 .temperatureSensor, window 104 104 1 1 .damper, window 110 110 1 2 .occupancySensor,
        window 120 120 1 3 .occupancySensor, { window 130 130 2 5 .luminaire with pin := true },
        { window 140 149 3 0 .other with translate := false, station := true }, window 150 150 1 1 .keypad,
        { window 160 160 1 0 .other with translate := false, forward := true }]
    zones := put (put (put (put (put Bank.empty.zones 1 room) 2 room) 3 room) 4 room) 5 room
    classifier :=
      put
        (put
          (put (put (put Bank.empty.classifier 1 (pointEntry 0x10 .presence)) 2 (pointEntry 0x20 .temperature)) 3
            (pointEntry 0x30 .keyOn))
          4 (pointEntry 0x11 .absence))
        5 (pointEntry 0x40 .ignore) }

def floorZones : Vector ZoneState 255 :=
  put
    (put
      (put (put State.reset.zones 1 { ZoneState.idle with occupancy := .occupied, hold := 1, level := 800, expiring := true }) 3
        { ZoneState.idle with occupancy := .grace, grace := 1, level := 400, preGrace := 800, expiring := true }) 4
      { ZoneState.idle with occupancy := .occupied, hold := 1, level := 100, expiring := true, outputIncomplete := true }) 5
    { ZoneState.idle with occupancy := .occupied, hold := 60, level := 800 }

/-- The floor with the plan active and staged, an hour after reset, with a sweep due and the store holding the plan. -/
def floor : State :=
  { State.reset with
    loading := false
    link := .up
    deviceTime := 3600
    active := plan
    staged := plan
    generation := 1
    staging := .editing
    zones := floorZones
    cache :=
      [{ address := 102, role := .occupancySensor, last := .presence, second := 3500, implausible := false },
        { address := 103, role := .temperatureSensor, last := .reading 2150, second := 3500, implausible := false }]
    presence := [{ address := 102, state := .present, missed := 2, heard := false }]
    sweep := { Sweep.afterReset with elapsed := 60 } }

theorem plan_valid : plan.Valid := Bank.valid_of_check (by decide +kernel)

theorem plan_pin : pinTest plan plan = none := by decide +kernel

theorem empty_valid : Bank.empty.Valid := Bank.valid_of_check (by decide +kernel)

theorem default_inRange : Settings.default.InRange := (Settings.check_iff _).mp (by decide)

theorem unwritten_lawful : Image.unwritten.Lawful := ⟨empty_valid, default_inRange, Nat.zero_le _, fun _ => rfl⟩

/-- A store image that holds the plan as the first cutover wrote it. -/
theorem plan_lawful : Image.Lawful { bank := plan, generation := 1, settings := .default, check := 0 } :=
  ⟨plan_valid, default_inRange, by decide, fun h => absurd h (by decide)⟩

theorem floor_law : floor.Law :=
  State.law_of_check (State.loadLaw_of_running rfl rfl) plan_valid plan_valid.1 (fun _ h => absurd rfl h) (fun _ => rfl)
    unwritten_lawful (by decide +kernel)

/-- The floor in another staging state than CUTTING, with a validation result, a sweep phase, a record in translation, a request in the
slot and a command waiting. -/
def floorIn (staging : StagingState) (reliance : Bool := false) (phase : SweepPhase := .idle)
    (current : Option Translation := none) (slot : Option Request := none) (pending : List Instr := []) : State :=
  { floor with
    staging := staging
    result := { outcome := .passed, check := none, index := none, reliance := reliance }
    maint := reliance
    engine := { Engine.afterReset with current := current }
    sweep := { floor.sweep with phase := phase }
    slot := slot
    pending := pending }

theorem floorIn_law {staging : StagingState} (h : staging ≠ .cutting) (reliance : Bool) (phase : SweepPhase)
    (current : Option Translation) (slot : Option Request) (pending : List Instr) :
    (floorIn staging reliance phase current slot pending).Law :=
  floor_law.restaged _ _ _ rfl rfl rfl (Nat.zero_le _) (fun _ hc => nomatch hc) (fun _ _ => plan_valid) unwritten_lawful
    floor_law.store (fun _ => plan_pin) (fun _ hr => hr) (fun _ => ⟨rfl, rfl, rfl, (floor_law.cutover.1 (by decide)).2.2.2⟩)
    (fun hc => absurd hc h) (Nat.zero_le _) (Nat.zero_le _)

/-- The computed states of the first zones of the walk, which visits zones 1 to 4. -/
def floorComputed : List (Nat × ZoneState) :=
  [(4, { ZoneState.idle with occupancy := .occupied, hold := 900, level := 800 }),
    (3, { ZoneState.idle with occupancy := .grace, grace := 30, level := 400, preGrace := 800 }),
    (2, ZoneState.idle), (1, { ZoneState.idle with occupancy := .occupied, hold := 1, level := 800, damper := some 500 })]

/-- The walk of the floor: waiting, stepping at zone 1 or zone 4, or finished. -/
def walkAt : WalkPhase → Nat → Walk
  | .stepping, 4 => { Walk.none with phase := .stepping, cursor := 4, computed := floorComputed.drop 1 }
  | .stepping, _ => { Walk.none with phase := .stepping, cursor := 1 }
  | .finished, _ => { Walk.none with phase := .finished, cursor := 4, computed := floorComputed }
  | phase, _ => { Walk.none with phase := phase }

/-- The floor in CUTTING, waiting for its first step: zones 1 to 4 are frozen, and a sweep is deferred. -/
def floorFrozen : State :=
  { floor with
    staging := .cutting
    result := { outcome := .passed, check := none, index := none, reliance := false }
    zones := mapNumbered floorZones fun z v => if z ≤ 4 then { v with frozen := true } else v
    walk := walkAt .waiting 0
    engine := { Engine.afterReset with gateOpen := false }
    sweep := { floor.sweep with deferred := true } }

theorem floorFrozen_law : floorFrozen.Law :=
  State.law_of_check (State.loadLaw_of_running rfl rfl) plan_valid plan_valid.1 (fun _ _ => plan_valid) (fun _ => rfl)
    unwritten_lawful (by decide +kernel)

/-- The floor in CUTTING, with the walk at a phase. -/
def floorCutting (phase : WalkPhase) (cursor : Nat := 0) (slot : Option Request := none) : State :=
  { floorFrozen with walk := walkAt phase cursor, slot := slot }

/-- The plan without a room but the pinned one: a walk between two such plans has no zone to visit. -/
def pinnedPlan : Bank :=
  { windows := [{ window 130 130 2 5 .luminaire with pin := true }]
    zones := put Bank.empty.zones 5 room
    classifier := Bank.empty.classifier }

theorem pinnedPlan_valid : pinnedPlan.Valid := Bank.valid_of_check (by decide +kernel)

/-- The pinned room alone, in CUTTING, with a walk that has nothing to visit. -/
def pinnedCutting : State :=
  { floorFrozen with
    active := pinnedPlan
    staged := pinnedPlan
    zones := put State.reset.zones 5 { ZoneState.idle with occupancy := .occupied, hold := 60, level := 800 }
    cache := []
    presence := [] }

theorem pinnedCutting_law : pinnedCutting.Law :=
  State.law_of_check (State.loadLaw_of_running rfl rfl) pinnedPlan_valid pinnedPlan_valid.1 (fun _ _ => pinnedPlan_valid)
    (fun _ => rfl) unwritten_lawful (by decide +kernel)

theorem floorCutting_law {phase : WalkPhase} {cursor : Nat}
    (h : ({ floorFrozen with walk := walkAt phase cursor } : State).walkCheck = true) (slot : Option Request) :
    (floorCutting phase cursor slot).Law := by
  refine floorFrozen_law.restaged (staging := .cutting) false slot [] rfl rfl rfl ?_ ?_ (fun _ _ => plan_valid) unwritten_lawful
    floorFrozen_law.store (fun _ => plan_pin) (fun hs => by rcases hs with hs | hs <;> cases hs) (fun hc => absurd rfl hc)
    (fun _ => ⟨State.walkLaw_of_check h, rfl, rfl, (floorFrozen_law.cutover.2 rfl).2.2.2⟩) (Nat.zero_le _) (Nat.zero_le _)
  · unfold walkAt; split <;> exact Nat.zero_le _
  · have lawful : ∀ c ∈ floorComputed, c.2.levelCheck (floorFrozen.stagedRecord c.1) = true ∧ c.2.rangeCheck = true := by
      decide +kernel
    have inRange : ∀ c ∈ floorComputed, c.2.LevelLaw (floorFrozen.stagedRecord c.1) ∧ c.2.InRange := fun c hc =>
      ⟨(ZoneState.levelCheck_iff _ _).mp (lawful c hc).1, (ZoneState.rangeCheck_iff _).mp (lawful c hc).2⟩
    unfold walkAt
    split
    · exact fun c hc => inRange c (List.mem_of_mem_drop hc)
    · exact fun c hc => nomatch hc
    · exact inRange
    · exact fun c hc => nomatch hc

theorem waiting_law (slot : Option Request) : (floorCutting .waiting 0 slot).Law := floorCutting_law (by decide +kernel) slot
theorem stepping_law (slot : Option Request) : (floorCutting .stepping 0 slot).Law := floorCutting_law (by decide +kernel) slot
theorem last_step_law (slot : Option Request) : (floorCutting .stepping 4 slot).Law := floorCutting_law (by decide +kernel) slot
theorem finished_law (slot : Option Request) : (floorCutting .finished 0 slot).Law := floorCutting_law (by decide +kernel) slot

/-- A request with a body, to this part alone. -/
def ask (body : List Byte) : Request := { broadcast := false, tag := 7, body := body }

/-- The floor takes any request. -/
theorem floorIn_admits (staging : StagingState) (reliance : Bool) (body : List Byte) :
    (floorIn staging reliance (slot := some (ask body))).Admits (ask body) :=
  ⟨⟨rfl, rfl, Nat.succ_pos 7⟩, rfl, rfl⟩

theorem floorCutting_admits (phase : WalkPhase) (body : List Byte) :
    (floorCutting phase (slot := some (ask body))).Admits (ask body) :=
  ⟨⟨rfl, rfl, Nat.succ_pos 7⟩, rfl, rfl⟩

/-- A frame of a field device. -/
def deviceFrame (kind : BitVec 4) (source : Address) (point : BitVec 8) (value : BitVec 16) : FieldFrame :=
  { destination := 0, kind, source, aux := 0, point, value }

theorem editing_not_cutting : StagingState.editing ≠ .cutting := by decide

theorem editing_not_rehearsing : StagingState.editing ≠ .rehearsing := by decide

/-- A record in translation, received on a segment. -/
def inTranslation (segment : Nat) (f : FieldFrame) : Translation :=
  { record := { frame := f, segment := segment, second := 3600 }, closedFloor := false, rehearsed := false }

/-! ## Which commands are ill formed -/

theorem test_segment_zero_refused : (Instr.receptionStart 0).wellFormed = false := by decide
theorem test_segment_five_refused : (Instr.transmissionStart 5).wellFormed = false := by decide
theorem test_transmit_completion_segment_refused : (Instr.transmitCompletion 0).wellFormed = false := by decide
theorem test_silence_segment_refused : (Instr.segmentSilenceExpiry 9).wellFormed = false := by decide
theorem test_reception_segment_refused : (Instr.receptionCompletion 5 [1]).wellFormed = false := by decide
theorem test_empty_burst_refused : (Instr.receptionCompletion 1 []).wellFormed = false := by decide
theorem test_empty_trunk_burst_refused : (Instr.trunkFrameReceived []).wellFormed = false := by decide
theorem test_hold_zone_zero_refused : (Instr.holdExpiry 0).wellFormed = false := by decide
theorem test_grace_zone_refused : (Instr.graceExpiry 256).wellFormed = false := by decide
theorem test_shadow_hold_zone_refused : (Instr.shadowHoldExpiry 256).wellFormed = false := by decide
theorem test_shadow_grace_zone_refused : (Instr.shadowGraceExpiry 0).wellFormed = false := by decide
theorem test_well_formed_accepted :
    (Instr.receptionCompletion 4 [0]).wellFormed && (Instr.holdExpiry 255).wellFormed = true := by decide

/-! ## Formats, from the manual -/

/-- The check of a known byte string under R2's generator and preset: CRC-16/CCITT-FALSE of "123456789" is 0x29B1. -/
theorem test_check_value : crc16 [0x31, 0x32, 0x33, 0x34, 0x35, 0x36, 0x37, 0x38, 0x39] = 0x29B1 := by decide +kernel

/-- Table 1-2: the address fields lie across bytes 0, 1 and 2, 3. -/
theorem test_frame_layout :
    (deviceFrame 1 0x123 0x10 0xABCD).bytes = [0x00, 0x01, 0x12, 0x30, 0x10, 0xAB, 0xCD] := by decide

/-- Table 1-3: a LEVEL command of fade code 2 to address 100. -/
theorem test_level_frame :
    (CommandEntry.frame { destination := 100, kind := .level, value := 800, fade := 2, zone := 1 }).bytes
      = [0x06, 0x43, 0xFF, 0xF2, 0x01, 0x03, 0x20] := by decide

/-- A trunk frame of kind 1 with a one-byte body: its length byte counts the body (Table 11-1). -/
theorem test_trunk_frame :
    ({ destination := 1, source := 0, kind := 1, tag := 9, body := [2] } : TrunkFrame).covered = [1, 0, 1, 9, 1, 2] := by
  decide

/-- R36: "A request that writes a window with low 3990 and high 4020, for instance, stores the window 3990–4000 and is answered
CLAMPED." -/
theorem test_window_clamped :
    (storeWindow [0x0F, 0x96, 0x0F, 0xB4, 1, 1, 0, 100, 1, 1]).map (fun w => (w.1.low, w.1.high, w.2))
      = some (3990, 4000, true) := by decide

/-- Table 2-5: the value 9100 at scale ×10 saturates at 8500; −125 at scale ×10 is −1250. -/
theorem test_reading_scale : reading true 9100 = 8500 ∧ reading true (-125) = -1250 ∧ reading false (-32768) = -4000 := by
  decide

/-- R67 and Table 4-4: 800 at trim 85 is 680, and a zone that is off sends 0. -/
theorem test_fixture_level : fixtureLevel 800 85 = 680 ∧ fixtureLevel 0 85 = 0 ∧ fixtureLevel 1 50 = 1 := by decide

/-- READ_STATUS data fills 74 bytes (Table 11-8). -/
theorem test_status_length : (statusData State.reset).length = 74 := by decide

/-! ## Single commands -/

/-- A signal that is due at no one changes nothing (log entry 1). -/
theorem test_take_not_due : step { State.reset with pending := [.take] } = .next State.reset  := rfl

/-- The straps 0 and 255 are corrected (R176). -/
theorem test_straps : strappedAddress 0 = 1 ∧ strappedAddress 255 = 254 ∧ strappedAddress 17 = 17 := by decide

/-- PRESENCE in a VACANT zone with auto-on lights it at its on level with a full hold (R87). -/
theorem test_presence_vacant :
    (ZoneState.idle.onPresence room).level = 800 ∧ (ZoneState.idle.onPresence room).hold = 900 := by decide

/-- The grace level of 800 at 50 percent is 400 (R83). -/
theorem test_grace_level : room.graceLevel 800 = 400 := by decide

/-- The check over an image: a write that ends in success leaves an image whose check agrees (R160, R161). -/
theorem test_image_check (i : Image) : i.whole.agrees = true ∧ i.partial.agrees = false ∧ i.whole.bank = i.bank := by simp

/-- A second at a hold of 1 s makes its expiry due, and the expiry without fresh presence leaves a hold of 0 (R80, R81). -/
theorem test_last_second :
    ({ ZoneState.idle with occupancy := .occupied, hold := 1 } : ZoneState).tick.expiring = true
      ∧ (({ ZoneState.idle with occupancy := .occupied, hold := 1 } : ZoneState).tick.onHoldExpiry room false).hold = 0 := by
  decide

/-- "65535 is followed by 1, and 0 is followed by 1" (R156). -/
theorem test_generation : nextGeneration 65535 = 1 ∧ nextGeneration 0 = 1 := by decide

/-- A command queue at its 96 entries drops a command of a new address (R117). -/
theorem test_queue_full (c : CommandEntry) (h : c.destination = 500) :
    acceptCommand (List.replicate 96 { destination := 4, kind := .level, value := 0, fade := 0, zone := 1 }) c = none := by
  have : (4 == 500) = false := by decide
  simp [acceptCommand, h, this]

/-! ## Witnesses: states and operands that meet the premises of each statement -/

theorem witness_StepRunsFrontCommand :
    ({ State.reset with pending := [.take] } : State).pending = Instr.take :: [] ∧ State.reset.pending = [] := ⟨rfl, rfl⟩

/-- A lawful floor, and the step of a command that changes it. -/
theorem witness_step : ∃ s s' : State, s.Law ∧ step s = .next s' ∧ s'.link ≠ s.link :=
  ⟨floorIn .editing (pending := [.trunkLoss]), _, floorIn_law (by decide) _ _ _ _ _, rfl, by decide⟩

theorem witness_QueuesKeepTheirBounds : ∃ s s' : State, s.Law ∧ step s = .next s' ∧ s'.link ≠ s.link := witness_step
theorem witness_LevelsKeepTheirBounds : ∃ s s' : State, s.Law ∧ step s = .next s' ∧ s'.link ≠ s.link := witness_step
theorem witness_ZoneStatesStayInRange : ∃ s s' : State, s.Law ∧ step s = .next s' ∧ s'.link ≠ s.link := witness_step
theorem witness_AbsentZonesStayIdleAndFlagsMatchReports : ∃ s s' : State, s.Law ∧ step s = .next s' ∧ s'.link ≠ s.link :=
  witness_step
theorem witness_PlansStayValid : ∃ s s' : State, s.Law ∧ step s = .next s' ∧ s'.link ≠ s.link := witness_step
theorem witness_PinsAndRelianceHold : ∃ s s' : State, s.Law ∧ step s = .next s' ∧ s'.link ≠ s.link := witness_step
theorem witness_WalkStateMatchesStaging : ∃ s s' : State, s.Law ∧ step s = .next s' ∧ s'.link ≠ s.link := witness_step
theorem witness_TablesStayKeyed : ∃ s s' : State, s.Law ∧ step s = .next s' ∧ s'.link ≠ s.link := witness_step
theorem witness_SettingsAndCountsStayInRange : ∃ s s' : State, s.Law ∧ step s = .next s' ∧ s'.link ≠ s.link := witness_step
theorem witness_LoadIsQuiet : ∃ s s' : State, s.Law ∧ step s = .next s' ∧ s'.link ≠ s.link := witness_step

theorem witness_PinnedWindowsSurvive : ∃ s s' : State, s.Law ∧ step s = .next s' ∧ ∃ w ∈ s.active.windows, w.pin = true :=
  ⟨floorIn .editing (pending := [.trunkLoss]), _, floorIn_law (by decide) _ _ _ _ _, rfl, by decide⟩

/-- Both ends of a window, the gap after it, and the addresses no window may hold. -/
theorem witness_LookupFindsTheOneWindow :
    plan.Valid ∧ (lookup plan.windows 100).isSome ∧ (lookup plan.windows 101).isSome ∧ lookup plan.windows 105 = none
      ∧ lookup plan.windows 0 = none ∧ lookup plan.windows 4001 = none := ⟨plan_valid, by decide⟩

theorem witness_CacheHoldsAtMost1024 : ∃ s : State, s.Law ∧ s.cache ≠ [] :=
  ⟨floorIn .editing, floorIn_law (by decide) _ _ _ _ _, by decide⟩

theorem witness_IssuesReachEveryActuator :
    plan.Valid ∧ (levelCommands plan.windows 1 800 2).length = 2 ∧ (damperCommands plan.windows 1 500).length = 1
      ∧ levelCommands plan.windows 255 800 2 = [] := ⟨plan_valid, by decide⟩

theorem witness_FieldFramesRoundTrip :
    let f := deviceFrame 1 1 0x10 1
    let g := deviceFrame 2 4000 0xFF 0x8000
    f.destination = 0 ∧ f.kind = 1 ∧ f.source.toNat = 1 ∧ g.destination = 0 ∧ g.kind = 2 ∧ g.source.toNat = 4000 := by
  decide

theorem witness_TrunkFramesRoundTrip :
    let f : TrunkFrame := { destination := 1, source := 0, kind := 1, tag := 0, body := [] }
    let g : TrunkFrame := { destination := 255, source := 9, kind := 7, tag := 255, body := List.replicate 240 0 }
    f.body.length ≤ 240 ∧ f.kind.toNat = 1 ∧ g.body.length ≤ 240 ∧ g.kind.toNat = 7 := by decide +kernel

theorem witness_StoredRecordsReadBack :
    (window 1 4000 4 255 .other).InRange ∧ (window 1 1 1 0 .keypad).InRange ∧ room.InRange :=
  ⟨(Window.check_iff _).mp (by decide), (Window.check_iff _).mp (by decide), (ZoneRecord.check_iff _).mp (by decide)⟩

/-- Segment 1 is receiving, segment 2 is idle and UP since second 90 with the silence limit just reached at 100, segment 3 holds 63
records, and segment 4 is full. -/
def lines : State :=
  let r : IngressRecord := { frame := deviceFrame 1 102 0x10 1, segment := 3, second := 80 }
  { State.reset with
    loading := false
    deviceTime := 100
    segments :=
      put
        (put
          (put (put State.reset.segments 1 { Segment.afterReset with receiving := true }) 2
            { Segment.afterReset with line := .up, lastArrival := some 90 })
          3 { Segment.afterReset with receiving := true, line := .up, ingress := List.replicate 63 r })
        4 { Segment.afterReset with receiving := true, ingress := List.replicate 128 r } }

theorem witness_LineStartsEndsAndFallsSilent :
    lines.resetLow = false ∧ (lines.segment 2).receiving = false ∧ (lines.segment 2).transmitting = none
      ∧ (lines.segment 2).line = .up ∧ (lines.segment 2).lastArrival = some 90
      ∧ lines.settings.silenceLimit = (lines.deviceTime - 90).toNat := by decide +kernel

/-- A short burst, a wrong check, a kind of the part's own, an absent source, and a destination. -/
theorem witness_MalformedBurstIsCountedAndDropped :
    lines.resetLow = false ∧ (lines.segment 1).receiving = true ∧ ([] : List Byte).length ≠ 9
      ∧ [(0 : Byte), 0] ≠ checkBytes [0, 0, 0, 0, 0, 0, 0] ∧ (frameOf 0 3 0 0 0 0 0).kind = 3
      ∧ (frameOf 0 1 0 0 0 0 0).source = 0 ∧ 4001 ≤ (frameOf 0 1 0xFF 0xF0 0 0 0).source.toNat
      ∧ (frameOf 0 0x11 0 0x10 0 0 0).destination ≠ 0 := by decide +kernel

/-- An empty queue on a DOWN segment, a queue that rises to 64, and a full queue. -/
theorem witness_ValidFrameArrives :
    (deviceFrame 1 1 0 0).destination = 0 ∧ lines.resetLow = false
      ∧ ((lines.segment 1).receiving = true ∧ (lines.segment 1).ingress = [] ∧ (lines.segment 1).line = .down)
      ∧ ((lines.segment 3).receiving = true ∧ (lines.segment 3).ingress.length = 63 ∧ (lines.segment 3).hold = .released)
      ∧ (lines.segment 4).receiving = true ∧ (lines.segment 4).ingress.length = 128 := by decide +kernel

/-- A command entry. -/
def entry (destination : Nat) : CommandEntry := { destination, kind := .level, value := 800, fade := 2, zone := 1 }

/-- Segments to send: a control frame, commands alone, deliveries alone, both with the burst below and at the allowance. -/
def senders (commands : List CommandEntry) (stations : List FieldFrame) (control : Option ControlFrame) (burst : Nat) :
    State :=
  State.reset.setSegment 4 { Segment.afterReset with commands, stations, control, burst }

/-- A waiting DAMPER command of position 1000. -/
def damperEntry : CommandEntry := { destination := 4000, kind := .damper, value := 1000, fade := 0, zone := 255 }

/-- Segment 4 is free and idle, with the waiting commands in the ranges of R116. -/
theorem senders_law (stations : List FieldFrame) (control : Option ControlFrame) (burst : Nat) {commands : List CommandEntry}
    (h : commands ∈ [[], [entry 1], [damperEntry, entry 1]]) :
    let s := senders commands stations control burst
    s.CommandLaw ∧ s.resetLow = false ∧ (s.segment 4).transmitting = none ∧ (s.segment 4).receiving = false := by
  refine ⟨?_, rfl, rfl, rfl⟩
  simp only [List.mem_cons, List.not_mem_nil, or_false] at h
  rcases h with rfl | rfl | rfl <;> exact State.commandLaw_of_check rfl

theorem witness_ArbiterChoosesControlThenByBurst :
    let f := deviceFrame 1 102 0x10 1
    (∀ stations control burst commands, commands ∈ [[], [entry 1], [damperEntry, entry 1]] →
      let s := senders commands stations control burst
      s.CommandLaw ∧ s.resetLow = false ∧ (s.segment 4).transmitting = none ∧ (s.segment 4).receiving = false)
      ∧ ((senders [entry 1] [f] (some .hold) 8).segment 4).control = some .hold
      ∧ ((senders [damperEntry, entry 1] [] none 0).segment 4).commands = [damperEntry, entry 1]
      ∧ ((senders [entry 1] [] none 0).segment 4).commands = [entry 1]
      ∧ ((senders [] [f] none 0).segment 4).stations = [f]
      ∧ (senders [entry 1] [f] none 8).settings.burstAllowance ≤ ((senders [entry 1] [f] none 8).segment 4).burst
      ∧ ((senders [entry 1] [f] none 7).segment 4).burst < (senders [entry 1] [f] none 7).settings.burstAllowance :=
  ⟨fun _ _ _ _ h => senders_law _ _ _ h, by decide⟩

/-- From pointer 4 the take passes over segments 4, 1 and 2 to the records of segment 3, whose queue holds 33. -/
theorem witness_TakeServesFromPointer :
    let r : IngressRecord := { frame := deviceFrame 1 102 0x10 1, segment := 3, second := 80 }
    let s : State :=
      { State.reset.setSegment 3 { Segment.afterReset with ingress := r :: List.replicate 32 r, hold := .held } with
        loading := false, engine := { Engine.afterReset with pointer := 4 } }
    s.resetLow = false ∧ s.loading = false ∧ s.engine.gateOpen = true ∧ s.engine.current = none
      ∧ (s.engine.pointer - 1 + 3) % 4 + 1 = 3 ∧ (s.segment 3).ingress = r :: List.replicate 32 r
      ∧ ∀ j, j < 3 → (s.segment ((s.engine.pointer - 1 + j) % 4 + 1)).ingress = [] := by decide

theorem witness_OfferedCommandCoalescesAppendsOrDrops :
    (∃ x ∈ ((senders [entry 7] [] none 0).segment 4).commands, x.destination = 7)
      ∧ ((senders ((List.range 95).map entry) [] none 0).segment 4).commands.length = 95
      ∧ (∀ x ∈ ((senders ((List.range 96).map entry) [] none 0).segment 4).commands, x.destination ≠ 100)
      ∧ ((senders ((List.range 96).map entry) [] none 0).segment 4).commands.length = 96 := by decide +kernel

theorem witness_IssuesChangeOnlyQueuesAndTheirZone :
    ∃ t, t = levelIssue 1 2 floor ∧ (levelCommands floor.active.windows 1 (floor.zone 1).level 2).length = 2 :=
  ⟨_, rfl, by decide +kernel⟩

theorem witness_FixtureAndGraceLevelsRound :
    room.InRange ∧ room.gracePercent ≠ 0 ∧ room.minOn ≤ 100 ∧ ({ room with gracePercent := 0 } : ZoneRecord).InRange :=
  ⟨(ZoneRecord.check_iff _).mp (by decide), by decide, by decide, (ZoneRecord.check_iff _).mp (by decide)⟩

theorem witness_MatchingFollowsTheMask :
    (winningEntry plan.classifier (deviceFrame 1 102 0x10 1)).isSome
      ∧ winningEntry plan.classifier (deviceFrame 2 102 0x10 1) = none := by decide +kernel

/-- Records of the sensor of an OCCUPIED, a VACANT and a GRACE zone are in translation. -/
theorem witness_PresenceActsOnItsZone :
    ∀ c ∈ [((102 : Address), 1, Occupancy.occupied), (110, 2, .vacant), (120, 3, .grace)],
      let s := floorIn .editing (current := some (inTranslation 1 (deviceFrame 1 c.1 0x10 1)))
      s.Law ∧ s.resetLow = false ∧ s.staging ≠ .rehearsing ∧ (s.zone c.2.1).occupancy = c.2.2
        ∧ (lookup s.active.windows c.1.toNat).map Window.role = some .occupancySensor
        ∧ classOf s.active.classifier (deviceFrame 1 c.1 0x10 1) = .presence := by
  intro c hc
  refine ⟨floorIn_law (by decide) _ _ _ _ _, rfl, editing_not_rehearsing, ?_⟩
  revert c
  decide +kernel

/-- Records of each kind in translation: every class of Table 2-4 from a window that accepts it, a mismatch, a miss, a forwarded IGNORE of a
pass-through window, and a muted and an unlisted source; with and without a staged run. -/
theorem witness_TranslationCompletes :
    (∀ segment f,
      (floorIn .editing (current := some (inTranslation segment f))).Law
        ∧ (floorIn .editing (current := some (inTranslation segment f))).resetLow = false)
      ∧ (∀ c ∈ [((102 : Address), (0x10 : BitVec 8), Role.occupancySensor, FrameClass.presence),
          (102, 0x11, .occupancySensor, .absence), (103, 0x20, .temperatureSensor, .temperature), (150, 0x30, .keypad, .keyOn),
          (100, 0x30, .luminaire, .keyOn), (100, 0x77, .luminaire, .pass), (160, 0x40, .other, .ignore), (140, 0x40, .other, .ignore)],
        (lookup plan.windows c.1.toNat).map Window.role = some c.2.2.1
          ∧ classOf plan.classifier (deviceFrame 1 c.1 c.2.1 1) = c.2.2.2)
      ∧ winningEntry plan.classifier (deviceFrame 1 100 0x77 1) = none ∧ lookup plan.windows 50 = none
      ∧ (lookup plan.windows 102).map Window.segment = some 1
      ∧ ∃ s : State, s.Law ∧ s.staging = .rehearsing ∧ s.engine.current.map Translation.rehearsed = some true :=
  ⟨fun _ _ => ⟨floorIn_law (by decide) _ _ _ _ _, rfl⟩, by decide +kernel, by decide +kernel, by decide, by decide,
    floorIn .rehearsing
      (current := some { inTranslation 1 (deviceFrame 1 102 0x10 1) with rehearsed := true }),
    floorIn_law (by decide) _ _ _ _ _, rfl, rfl⟩

theorem witness_KeypadClassesFollowTable :
    room.InRange ∧ room.minOn ≤ room.onLevel ∧ ZoneState.idle.LevelLaw room
      ∧ ∀ z, z ∈ [floor.zone 1, floor.zone 3] → z.LevelLaw room ∧ z.occupancy ≠ .vacant :=
  ⟨(ZoneRecord.check_iff _).mp (by decide), by decide, idle_level _, fun z hz =>
    ⟨(ZoneState.levelCheck_iff _ _).mp (by revert z; decide +kernel), by revert z; decide +kernel⟩⟩

/-- A source in a gap, and a source in a muted window. -/
theorem witness_UnlistedAndMutedReachNoZone :
    let s := floorIn .editing (current := some (inTranslation 1 (deviceFrame 1 50 0x10 1)))
    s.resetLow = false ∧ s.staging ≠ .rehearsing ∧ lookup s.active.windows 50 = none
      ∧ (lookup s.active.windows 140).map (fun w => (w.translate, w.forward, w.segment)) = some (false, false, 3) := by
  decide

/-- Zone 1 has fresh presence at its expiry, zone 4 has none, and the grace of zone 3 has run out. -/
theorem witness_ZoneTimersExpire :
    floor.Law ∧ floor.resetLow = false
      ∧ ((floor.zone 1).occupancy = .occupied ∧ (floor.zone 1).expiring = true ∧ (floor.zone 1).frozen = false
        ∧ floor.freshPresence floor.active.windows 1 = true)
      ∧ ((floor.zone 4).occupancy = .occupied ∧ (floor.zone 4).expiring = true ∧ (floor.zone 4).frozen = false
        ∧ ∀ w ∈ floor.active.windows, ¬(w.role = .occupancySensor ∧ w.zone = 4))
      ∧ ((floor.zone 3).occupancy = .grace ∧ (floor.zone 3).expiring = true ∧ (floor.zone 3).frozen = false)
      ∧ (∀ x ∈ floor.uplink.reports, x.zone ≠ 1) ∧ ∃ x ∈ (queueReport 1 floor).uplink.reports, x.zone = 1 :=
  ⟨floor_law, by decide +kernel⟩

theorem witness_ShadowTimersTouchOnlyTheShadow :
    let s : State := { floor with staging := .rehearsing, shadow := floor.zones }
    s.resetLow = false ∧ s.staging = .rehearsing
      ∧ ((s.shadowZone 1).occupancy = .occupied ∧ (s.shadowZone 1).expiring = true
        ∧ s.freshPresence s.staged.windows 1 = true)
      ∧ ((s.shadowZone 4).occupancy = .occupied ∧ (s.shadowZone 4).expiring = true
        ∧ ∀ w ∈ s.staged.windows, ¬(w.role = .occupancySensor ∧ w.zone = 4))
      ∧ ((s.shadowZone 3).occupancy = .grace ∧ (s.shadowZone 3).expiring = true)
      ∧ s.settings.tracePrescale = 1 ∧ s.engine.traceCount = 0 ∧ s.link = .up ∧ s.uplink.traces = [] := by decide +kernel

/-- A trace count below the prescale, and a trace queue at its 64 entries. -/
theorem witness_trace_clauses :
    let s : State := { floor with settings := { floor.settings with tracePrescale := 255 } }
    let t : Trace := { stagedZone := 1, destination := 100, kind := .level, value := 0, sourceZone := 0 }
    ¬(s.settings.tracePrescale ≤ s.engine.traceCount + 1)
      ∧ ({ floor.uplink with traces := List.replicate 64 t } : Uplink).traces.length = 64 := by decide +kernel

/-- The rehearsing floor with a running shadow keeps every law, so the clauses under the laws have states. -/
theorem rehearsing_law : ({ floor with staging := .rehearsing, shadow := floor.zones } : State).Law :=
  State.law_of_check (State.loadLaw_of_running rfl rfl) plan_valid plan_valid.1 (fun _ _ => plan_valid) (fun h => absurd rfl h)
    unwritten_lawful (by decide +kernel)

theorem witness_SecondCountsTimersDown :
    floor.resetLow = false ∧ floor.staging ≠ .rehearsing ∧ floor.deviceTime.toNat < 4294967295
      ∧ ({ floor with staging := .rehearsing } : State).staging = .rehearsing := by decide

/-- One entry alone in each uplink queue, with the trunk up and its transmitter free. -/
theorem witness_UplinkGrantsByPriority :
    let r : Reply := { tag := 0, body := [1, 0] }
    let n : NoticeRecord := { condition := .segmentDown, scope := some 1, counter := 1 }
    let f : FieldUp := { segment := 1, zone := 0, cls := .pass, frame := deviceFrame 1 102 0x10 1 }
    let t : Trace := { stagedZone := 1, destination := 100, kind := .level, value := 0, sourceZone := 0 }
    floor.trunkTransmitting = none ∧ floor.link = .up
      ∧ (offerReply r floor).uplink.replies = [r]
      ∧ (report n.condition n.scope floor).uplink.notices = [n]
      ∧ (queueReport 1 floor).uplink.reports ≠ [] ∧ (queueReport 1 floor).uplink.notices = []
      ∧ (offerForward f floor).uplink.forwards = [f] ∧ (offerTrace t floor).uplink.traces = [t] := by decide +kernel

/-- Frames for another part, requests, foreign requests, a delivery, a kind the part does not take, and a burst that fails its check. -/
theorem witness_TrunkFramesAreFiltered :
    floor.resetLow = false ∧ floor.link = .up ∧ floor.trunkAddress = 1 ∧ floor.slot = none
      ∧ (floorIn .editing (slot := some (ask [1]))).slot ≠ none
      ∧ (floorCutting .waiting).staging = .cutting ∧ (floorCutting .waiting).walk.held.length < 32
      ∧ ([0, 0x06, 0x43, 0, 0, 1, 0, 0] : List Byte).length = 8
      ∧ (([1, 0, 1, 0, 0, 0, 0] : List Byte).length = 7 + (0 : Byte).toNat
        ∧ ([1, 0, 1, 0, 0, 0, 0] : List Byte).drop 5 ≠ checkBytes [1, 0, 1, 0, 0]) := by decide +kernel

/-- Deliveries to a station window by selector 0, to all devices of segment 4, and to an unlisted address; and none to a sensor. -/
theorem witness_DeliveryFollowsTable :
    plan.Valid ∧ floor.active = plan
      ∧ route floor { selector := 0, frame := { deviceFrame 3 0 1 0 with destination := 140 } } = some 3
      ∧ route floor { selector := 4, frame := { deviceFrame 3 0 1 0 with destination := 4095 } } = some 4
      ∧ route floor { selector := 1, frame := { deviceFrame 3 0 1 0 with destination := 4000 } } = some 1
      ∧ route floor { selector := 1, frame := { deviceFrame 3 0 1 0 with destination := 102 } } = none :=
  ⟨plan_valid, rfl, by decide⟩

theorem down_law : ({ floor with link := .down } : State).Law :=
  { floor_law with queue := ⟨floor_law.queue.1, floor_law.queue.2.1, floor_law.queue.2.2.1, fun _ => by decide⟩ }

/-- The trunk is down, STORE_FAILED and SEGMENT_DOWN are pending, SEGMENT_UP is pending and disabled, and TRUNK_RESTORED is pending from the
restoration before or not. -/
def downPending (restored : Bool) : State :=
  let told : NoticeState := { pending := true, occurrence := true, counter := 2, firstScope := none }
  { floor with
    link := .down
    settings := { Settings.default with enables := put Settings.default.enables 2 false }
    notices :=
      put (put (put (put floor.notices 18 told) 1 told) 2 told) 20
        { pending := restored, occurrence := true, counter := 1, firstScope := none } }

theorem downPending_law (restored : Bool) : (downPending restored).Law :=
  { down_law with
    settings := ⟨(Settings.check_iff _).mp (by cases restored <;> decide), floor_law.settings.2⟩
    store := ⟨fun h => (nomatch h), fun h => (nomatch h), fun h => by rcases h with h | h <;> cases h⟩
    load := State.loadLaw_of_running rfl rfl
    count := ⟨floor_law.count.1, floor_law.count.2.1,
      fun c => by cases restored <;> revert c <;> intro c <;> cases c <;> decide +kernel, floor_law.count.2.2.2⟩ }

theorem witness_TrunkLossAndRestoration :
    (floor.Law ∧ floor.resetLow = false ∧ floor.link = .up)
      ∧ ∀ restored,
        let s := downPending restored
        s.Law ∧ s.resetLow = false ∧ s.link = .down ∧ (s.notice .trunkRestored).pending = restored
          ∧ s.enabled .trunkRestored = true ∧ (s.notice .segmentDown).pending = true ∧ s.enabled .segmentDown = true
          ∧ (s.notice .segmentUp).pending = true ∧ s.enabled .segmentUp = false ∧ (s.notice .storeFailed).pending = true :=
  ⟨⟨floor_law, rfl, rfl⟩, fun restored => ⟨downPending_law restored, rfl, rfl, by cases restored <;> decide +kernel⟩⟩

theorem witness_MaintLossWithdrawsReliance :
    ((floorIn .validated true).Law ∧ (floorIn .validated true).staging = .validated
        ∧ (floorIn .validated true).result.reliance = true)
      ∧ (floorIn .validated).Law ∧ (floorIn .validated).result.reliance = false :=
  ⟨⟨floorIn_law (by decide) _ _ _ _ _, rfl, rfl⟩, floorIn_law (by decide) _ _ _ _ _, rfl⟩

/-- A condition not pending, one pending with its record waiting, and one whose record waits though it is no longer pending. -/
theorem witness_ReportMakesConditionPending :
    (floor.notice .segmentDown).pending = false ∧ floor.enabled .segmentDown = true ∧ floor.link = .up
      ∧ ((report .segmentDown (some 1) floor).notice .segmentDown).pending = true
      ∧ ∃ r ∈ (report .segmentDown (some 1) floor).uplink.notices, r.condition = .segmentDown := by decide +kernel

theorem witness_WeightedMeanRoundsAndStaysBetween :
    ([(1, 0), (15, 5000)] : List (Nat × Int)) ≠ []
      ∧ (∀ r ∈ ([(1, 0), (15, 5000)] : List (Nat × Int)), 1 ≤ r.1 ∧ 0 ≤ r.2 ∧ r.2 ≤ 5000)
      ∧ floor.Law ∧ floor.active.Valid ∧ floor.includedReadings floor.active.windows 1 = [(1, 2150)] :=
  ⟨by decide, by decide, floor_law, plan_valid, by decide +kernel⟩

/-- Requests that read: during the store load too, of unknown names 0 and 24, and of the last record of the zone table; a request to all
parts; and the last record of each list. -/
theorem witness_ReadsAnswerAndChangeNothing :
    (∀ body, ({ State.reset with slot := some (ask body) } : State).Takes (ask body))
      ∧ (∀ body, (floorIn .editing (slot := some (ask body))).Takes (ask body))
      ∧ (∀ body, (floorIn .editing (slot := some { ask body with broadcast := true })).Takes { ask body with broadcast := true })
      ∧ (({ State.reset with slot := some (ask [8]) } : State).loading = true ∧ (ask [8]).body.length = 1
        ∧ (ask [8, 0]).body.length ≠ 1 ∧ (ask [4, 1, 0]).body.length < 4 ∧ ([1] : List Byte).length % 10 ≠ 0)
      ∧ ((floor.active.windows[9]?).isSome ∧ (floor.cache[1]?).isSome ∧ (floor.presence[0]?).isSome) ∧ 23 < (24 : Byte).toNat
      ∧ tableRange floor 2 = some (1, 256) ∧ recordSize 2 = some 18 ∧ tableRange floor 0 = some (0, 10) :=
  ⟨fun _ => ⟨rfl, rfl, Nat.succ_pos 7⟩, fun _ => ⟨rfl, rfl, Nat.succ_pos 7⟩, fun _ => ⟨rfl, rfl, Nat.succ_pos 7⟩, by decide,
    by decide⟩

/-- The floor in EDITING with a staged list of 512 windows, not yet in order. -/
def floorFull (slot : Option Request) : State :=
  { floorIn .editing (slot := slot) with staged := { plan with windows := List.replicate 512 (window 1 1 1 1 .other) } }

theorem floorFull_law (slot : Option Request) : (floorFull slot).Law :=
  let h := floorIn_law (staging := .editing) (by decide) false .idle none slot []
  { h with
    plan :=
      ⟨h.plan.1, ⟨by rw [floorFull, List.length_replicate], fun w hw => by
          rw [List.eq_of_mem_replicate hw]; exact (Window.check_iff _).mp (by decide), plan_valid.1.2.2⟩,
        fun _ he => absurd rfl he, h.plan.2.2.2⟩
    pin := fun hs => by rcases hs with hs | hs | hs <;> cases hs
    load := State.loadLaw_of_running rfl rfl }

/-- Every body can be asked for while EDITING, REHEARSING, CUTTING and RETAINED; the list has windows 0 to 9, or is full; and records with
and without a correction are stored. -/
theorem witness_EditsChangeTheStagedBank :
    (∀ body,
      let s := floorIn .editing (slot := some (ask body))
      s.Law ∧ s.Admits (ask body) ∧ s.staging ≠ .cutting ∧ s.staging ≠ .retained ∧ s.staged.windows.length = 10)
      ∧ (∀ body,
        ((floorIn .rehearsing (slot := some (ask body))).Law ∧ (floorIn .rehearsing (slot := some (ask body))).Admits (ask body))
        ∧ ((floorIn .retained (slot := some (ask body))).Law ∧ (floorIn .retained (slot := some (ask body))).Admits (ask body))
        ∧ (floorCutting .waiting 0 (some (ask body))).Law ∧ (floorCutting .waiting 0 (some (ask body))).Admits (ask body)
        ∧ (floorFull (some (ask body))).Law ∧ (floorFull (some (ask body))).Admits (ask body)
        ∧ (floorFull (some (ask body))).staging = .editing ∧ (floorFull (some (ask body))).staged.windows.length = 512)
      ∧ (storeWindow (window 1 4000 4 255 .other).bytes = some (window 1 4000 4 255 .other, false)
        ∧ (storeWindow [0, 0, 0, 0, 0, 0, 9, 0, 0, 0]).map Prod.snd = some true
        ∧ storeZone room.bytes = some (room, false) ∧ (storeZone (List.replicate 18 0)).map Prod.snd = some true
        ∧ storeEntry (pointEntry 1 .pass).bytes = some (pointEntry 1 .pass, false)
        ∧ (storeEntry [1, 0, 0, 0, 0, 0, 0, 0, 0, 11, 2]).map Prod.snd = some true) :=
  ⟨fun body => ⟨floorIn_law (by decide) _ _ _ _ _, floorIn_admits _ _ body, editing_not_cutting,
      (by decide : StagingState.editing ≠ .retained), rfl⟩,
    fun body => ⟨⟨floorIn_law (by decide) _ _ _ _ _, floorIn_admits _ _ body⟩,
      ⟨floorIn_law (by decide) _ _ _ _ _, floorIn_admits _ _ body⟩, waiting_law _, floorCutting_admits _ _, floorFull_law _,
      ⟨⟨rfl, rfl, Nat.succ_pos 7⟩, rfl, rfl⟩, rfl, List.length_replicate⟩,
    by decide +kernel⟩

theorem witness_CopyAndDiscardReplaceTheStagedBank :
    ∀ body,
      let s := floorIn .rehearsing (slot := some (ask body))
      s.Law ∧ s.Admits (ask body) ∧ s.staging ≠ .cutting ∧ (floorCutting .waiting 0 (some (ask body))).Law
        ∧ (floorCutting .waiting 0 (some (ask body))).Admits (ask body) :=
  fun body => ⟨floorIn_law (by decide) _ _ _ _ _, floorIn_admits _ _ body, (by decide : StagingState.rehearsing ≠ .cutting),
    waiting_law _, floorCutting_admits _ _⟩

/-- A bank that fails a check, one that passes them and the pin test, and one that fails the pin test alone. -/
theorem witness_ValidateDecides :
    (∀ staging, (floorIn staging (slot := some (ask [10]))).Admits (ask [10]))
      ∧ (floorCutting .waiting 0 (some (ask [10]))).Admits (ask [10])
      ∧ firstFailure { plan with windows := [window 1 1 1 0 .other] } = some (.zoneZero, 0)
      ∧ firstFailure plan = none ∧ pinTest plan plan = none
      ∧ firstFailure Bank.empty = none ∧ pinTest plan Bank.empty = some 5 :=
  ⟨fun _ => floorIn_admits _ _ _, floorCutting_admits _ _, by decide +kernel, plan_valid.2, plan_pin, by decide +kernel, by decide +kernel⟩

/-- Banks that fail a check of Table 8-3, with the index it reports: of two failing checks the earlier, and each limit just passed. -/
def failing : List (Bank × Check × Nat) :=
  let sensors : Window := { window 1025 1025 2 0 .temperatureSensor with translate := false }
  [({ plan with windows := [window 1 5 1 0 .other, window 10 12 1 1 .other, window 12 13 1 9 .other] }, .order, 2),
    ({ plan with windows := [window 1 1 1 0 .other, window 2 2 1 9 .other] }, .zoneMissing, 1),
    ({ plan with windows := [window 1 1 1 1 .other, window 2 2 1 0 .other] }, .zoneZero, 1),
    ({ plan with zones := put plan.zones 7 { room with minOn := 801 } }, .levels, 7),
    ({ plan with windows := [window 1 64 1 1 .luminaire, window 65 65 2 1 .damper] }, .actuatorLimit, 1),
    ({ plan with windows := [window 1 33 1 2 .temperatureSensor] }, .tempLimit, 2),
    ({ plan with windows := [window 1 1024 1 1 .occupancySensor, sensors] }, .sensorTotal, 1),
    ({ plan with windows := [window 1 1 1 1 .other, { window 2 2 1 1 .other with translate := false, pin := true }] },
      .pinAttribute, 1)]

/-- Table 8-3: the check that fails first and its index. -/
theorem test_first_failure : ∀ f ∈ failing, firstFailure f.1 = some f.2 := by decide +kernel

/-- Limits just met: 64 actuators, 32 temperature sensors and 1,024 sensor addresses (R134). -/
theorem test_limits_met :
    firstFailure
        { plan with
          windows := [window 1 64 1 1 .luminaire, window 65 96 2 1 .temperatureSensor, window 97 1088 1 2 .occupancySensor] }
      = none := by decide +kernel

theorem witness_ValidationChecksTheWholeBank :
    plan.Stored ∧ firstFailure plan = none ∧ ∀ f ∈ failing, f.1.Stored :=
  ⟨plan_valid.1, plan_valid.2, fun f hf => Bank.stored_of_check (by revert f; decide +kernel)⟩

/-- The pinned room loses its window, its record changes, and an address joins it (R55, R135). -/
def unpinned : List Bank :=
  [Bank.empty, { plan with zones := put plan.zones 5 { room with step := 60 } },
    { plan with windows := plan.windows ++ [window 200 200 1 5 .other] }]

theorem test_pin_test_zone : ∀ b ∈ unpinned, pinTest plan b = some 5 := by decide +kernel

theorem witness_PinTestProtectsPinnedRooms :
    plan.Stored ∧ pinTest plan plan = none ∧ (∃ w ∈ plan.windows, w.pin = true ∧ w.zone = 5) ∧ ∀ b ∈ unpinned, b.Stored :=
  ⟨plan_valid.1, plan_pin, by decide, fun b hb => Bank.stored_of_check (by revert b; decide +kernel)⟩

/-- Zone 1 is staged and not pinned, zone 5 is pinned, and zone 255 is not staged. -/
theorem witness_RehearsalStartsAndStops :
    (∀ staging, staging ≠ .cutting → ∀ body,
      let s := floorIn staging (slot := some (ask body))
      s.Law ∧ s.Admits (ask body))
      ∧ (∀ body, (floorCutting .waiting 0 (some (ask body))).Law ∧ (floorCutting .waiting 0 (some (ask body))).Admits (ask body))
      ∧ (floor.stagedRecord 1).present = true ∧ pinned floor.active.windows 1 = false
      ∧ (floor.stagedRecord 5).present = true ∧ pinned floor.active.windows 5 = true
      ∧ (floor.stagedRecord 255).present = false :=
  ⟨fun staging h body => ⟨floorIn_law h _ _ _ _ _, floorIn_admits _ _ body⟩,
    fun _ => ⟨waiting_law _, floorCutting_admits _ _⟩, by decide +kernel⟩

/-- The floor with a store write in progress. -/
def floorWriting (staging : StagingState) (slot : Option Request) : State :=
  { floorIn staging (slot := slot) with
    store :=
      { image := Image.partial { bank := plan, generation := 1, settings := .default, check := 0 }, status := .invalid
        writing := true } }

theorem floorWriting_store (staging : StagingState) (slot : Option Request) : (floorWriting staging slot).StoreLaw :=
  And.intro (fun _ => ⟨Image.partial_agrees _, rfl⟩) (And.intro (fun h => nomatch h) fun _ => ⟨rfl, rfl, rfl⟩)

theorem floorWriting_law {staging : StagingState} (h : staging ≠ .cutting) (slot : Option Request) :
    (floorWriting staging slot).Law :=
  floor_law.restaged _ _ _ rfl rfl rfl (Nat.zero_le _) (fun _ hc => nomatch hc) (fun _ _ => plan_valid) plan_lawful.partial
    (floorWriting_store staging slot) (fun _ => plan_pin)
    (fun _ hr => nomatch hr) (fun _ => ⟨rfl, rfl, rfl, (floor_law.cutover.1 (by decide)).2.2.2⟩) (fun hc => absurd hc h)
    (Nat.zero_le _) (Nat.zero_le _)

/-- A cutover is asked for in every state, and during a store write; walks wait, step from zone 1 to zone 2, and step at the last zone. -/
theorem witness_CutoverStartsAndWalks :
    (∀ staging, staging ≠ .cutting →
      let s := floorIn staging (slot := some (ask [13]))
      s.Law ∧ s.Admits (ask [13]) ∧ s.store.writing = false ∧ pinTest s.active s.staged = none)
      ∧ ((floorWriting .validated (some (ask [13]))).Law ∧ (floorWriting .validated (some (ask [13]))).Admits (ask [13])
        ∧ (floorWriting .validated (some (ask [13]))).store.writing = true)
      ∧ ((floorCutting .waiting 0 (some (ask [13]))).Law ∧ (floorCutting .waiting 0 (some (ask [13]))).Admits (ask [13]))
      ∧ ((floorCutting .waiting).Law ∧ (floorCutting .waiting).engine.current = none
        ∧ nextZone (floorCutting .waiting).walks 0 = some 1)
      ∧ ((floorCutting .stepping).Law ∧ nextZone (floorCutting .stepping).walks 1 = some 2)
      ∧ (floorCutting .stepping 4).Law ∧ nextZone (floorCutting .stepping 4).walks 4 = none :=
  ⟨fun _ h => ⟨floorIn_law h _ _ _ _ _, floorIn_admits _ _ _, rfl, plan_pin⟩,
    ⟨floorWriting_law (by decide) _, ⟨⟨rfl, rfl, Nat.succ_pos 7⟩, rfl, rfl⟩, rfl⟩, ⟨waiting_law _, floorCutting_admits _ _⟩,
    ⟨waiting_law _, rfl, by decide +kernel⟩, ⟨stepping_law _, by decide +kernel⟩, last_step_law _, by decide +kernel⟩

/-- A revert whose pin test fails: the retained bank has lost the pinned room. -/
theorem witness_revert_pin_failure :
    (pinTest plan Bank.empty = some 5)
      ∧ ∃ s : State, s.Law ∧ s.Admits (ask [13]) ∧ s.staging = .retained ∧ pinTest s.active s.staged = some 5 := by
  have h5 : pinTest plan Bank.empty = some 5 := by decide +kernel
  have he := empty_valid
  refine ⟨h5, { floorIn .retained (slot := some (ask [13])) with staged := Bank.empty }, ?_, ⟨⟨rfl, rfl, Nat.succ_pos 7⟩, rfl, rfl⟩,
    rfl, h5⟩
  have dark : ∀ z, nth State.reset.shadow ZoneState.idle z = .idle := nth_replicate 255 _
  have h := floorIn_law (staging := .retained) (by decide) false .idle none (some (ask [13])) []
  exact
    { h with
      level := ⟨h.level.1,
        fun z => (show (nth State.reset.shadow ZoneState.idle z).LevelLaw _ by rw [dark]; exact idle_level _),
        fun c hc => (nomatch hc), h.level.2.2.2⟩
      load := State.loadLaw_of_running rfl rfl
      plan := ⟨h.plan.1, he.1, fun _ _ => he, h.plan.2.2.2⟩
      cutover := ⟨h.cutover.1, fun hc => (nomatch hc)⟩
      pin := fun hs => by rcases hs with hs | hs | hs <;> cases hs }

/-- The floor with zone 2 lit by zone 1, an OCCUPIED, and a GRACE contributor alone, and a new zone without a contributor. -/
theorem witness_DominantContributorHasMostLuminaires :
    plan.Stored ∧ dominant plan.windows plan.windows 1 = some 1
      ∧ (floor.Law ∧ floor.staged.Valid ∧ (floor.stagedRecord 1).present = true ∧ (floor.zone 1).occupancy = .occupied
        ∧ contributors plan.windows plan.windows 1 = [1])
      ∧ ((floor.stagedRecord 3).present = true ∧ (floor.zone 3).occupancy = .grace ∧ (floor.stagedRecord 3).graceTime ≠ 0
        ∧ contributors plan.windows plan.windows 3 = [3])
      ∧ ((floor.stagedRecord 2).present = true ∧ (floor.zone 2).occupancy = .vacant
        ∧ contributors plan.windows plan.windows 2 = [2])
      ∧ (floor.stagedRecord 4).present = true ∧ contributors plan.windows plan.windows 4 = [] :=
  ⟨plan_valid.1, by decide +kernel, ⟨floor_law, plan_valid, by decide +kernel⟩, by decide +kernel⟩

/-- A walk that has ended with a computed state for each of zones 1 to 4, pinned zone 5 and absent zone 255; and a walk with no zone to visit. -/
theorem witness_CutoverCompletes :
    ((floorCutting .finished).Law ∧ (floorCutting .finished).resetLow = false
        ∧ (floorCutting .finished).engine.current = none ∧ (floorCutting .finished).sweep.phase = .idle
        ∧ (floorCutting .finished).sweep.deferred = true)
      ∧ (∀ z, z ∈ [1, 2, 3, 4] →
        ((floorCutting .finished).walk.stateOf z).isSome = true ∧ (floorCutting .finished).walks z = true)
      ∧ (pinned plan.windows 5 = true ∧ (plan.zone 5).present = true ∧ (plan.zone 255).present = false)
      ∧ pinnedCutting.Law ∧ pinnedCutting.walk.phase = .waiting ∧ nextZone pinnedCutting.walks 0 = none
      ∧ pinnedCutting.engine.current = none ∧ pinnedCutting.sweep.phase = .idle :=
  ⟨⟨finished_law _, rfl, rfl, rfl, rfl⟩, by decide +kernel, by decide +kernel, pinnedCutting_law, rfl, by decide +kernel, rfl, rfl⟩

/-- A walk whose reliance has lost its MAINT, with a deferred sweep behind one in progress and a frame held. -/
def floorLost (slot : Option Request) : State :=
  { floorFrozen with
    result := { outcome := .passed, check := none, index := some 5, reliance := true }
    walk :=
      { walkAt .stepping 0 with
        held := [{ selector := 0, frame := { deviceFrame 3 0 1 0 with destination := 140 } }] }
    sweep := { floorFrozen.sweep with phase := .refresh 0 }
    slot := slot }

theorem floorLost_law (slot : Option Request) : (floorLost slot).Law :=
  floorFrozen_law.restaged (staging := .cutting) false slot [] rfl rfl rfl (by decide) (fun _ hc => nomatch hc)
    (fun _ _ => plan_valid) unwritten_lawful floorFrozen_law.store (fun h => nomatch h)
    (fun hs => by rcases hs with hs | hs <;> cases hs) (fun hc => absurd rfl hc)
    (fun _ => ⟨State.walkLaw_of_check (by decide +kernel), rfl, rfl, (floorFrozen_law.cutover.2 rfl).2.2.2⟩) (Nat.zero_le _)
    (Nat.zero_le _)

theorem witness_AbortReturnsTheOldPlan :
    ((floorIn .validated (slot := some (ask [14]))).Law ∧ (floorIn .validated (slot := some (ask [14]))).Admits (ask [14]))
      ∧ ((floorCutting .stepping (slot := some (ask [14]))).Law
        ∧ (floorCutting .stepping (slot := some (ask [14]))).Admits (ask [14]))
      ∧ (floorLost (some (ask [14]))).Law ∧ (floorLost (some (ask [14]))).Admits (ask [14]) :=
  ⟨⟨floorIn_law (by decide) _ _ _ _ _, floorIn_admits _ _ _⟩, ⟨stepping_law _, floorCutting_admits _ _⟩, floorLost_law _,
    ⟨rfl, rfl, Nat.succ_pos 7⟩, rfl, rfl⟩

/-- A zone number 0 or above 255 names no zone (R74). -/
theorem test_zone_number_outside :
    zoneRefusal 0 floor = some .badIndex ∧ zoneRefusal 256 floor = some .badIndex ∧ zoneRefusal 65535 floor = some .badIndex
      ∧ zoneRefusal 1 floor = none ∧ zoneRefusal 0 floorFrozen = some .busy := by decide +kernel

/-- Zone actions on a present zone in each occupancy state, on an absent zone and on numbers 0, 256 and 65535, and while CUTTING. -/
theorem witness_ZoneActionsActAsAsked :
    (∀ body, (floorIn .editing (slot := some (ask body))).Law ∧ (floorIn .editing (slot := some (ask body))).Admits (ask body))
      ∧ (∀ body, (floorCutting .waiting (slot := some (ask body))).Law
        ∧ (floorCutting .waiting (slot := some (ask body))).Admits (ask body))
      ∧ (floor.record 1).present = true ∧ (floor.zone 1).occupancy = .occupied ∧ (floor.record 2).present = true
      ∧ (floor.zone 2).occupancy = .vacant ∧ (floor.zone 3).occupancy = .grace ∧ (floor.record 255).present = false
      ∧ number 0 0 = 0 ∧ number 1 0 = 256 ∧ number 255 255 = 65535 :=
  ⟨fun _ => ⟨floorIn_law (by decide) _ _ _ _ _, floorIn_admits _ _ _⟩,
    fun _ => ⟨waiting_law _, floorCutting_admits _ _⟩, by decide +kernel⟩

/-- Settings may be written in EDITING, with the sweep timer at 60 seconds, and not while CUTTING or during a store write; and the values at
and beyond the bounds of each range, answered OK and CLAMPED. -/
theorem witness_SettingsAreStored :
    (∀ reliance body,
      let s := floorIn .editing reliance (slot := some (ask body))
      s.Law ∧ s.Admits (ask body) ∧ s.staging ≠ .cutting ∧ s.store.writing = false ∧ s.sweep.elapsed = 60
        ∧ s.maint = reliance)
      ∧ (∀ body,
        let s := floorCutting .waiting (slot := some (ask body))
        s.Law ∧ s.Admits (ask body) ∧ s.staging = .cutting)
      ∧ (∀ body,
        let s := floorWriting .editing (some (ask body))
        s.Law ∧ s.Admits (ask body) ∧ s.store.writing = true)
      ∧ ∀ c ∈ [(1, 10, 600), (2, 1, 15), (3, 60, 3600), (4, 2, 60), (5, 1, 32), (6, 1, 255)],
        let asked := fun v : Nat => (applySetting c.1 0 v floor).map Prod.snd
        asked c.2.1 = some false ∧ asked c.2.2 = some false ∧ asked (c.2.1 - 1) = some true ∧ asked (c.2.2 + 1) = some true :=
  ⟨fun _ _ => ⟨floorIn_law (by decide) _ _ _ _ _, floorIn_admits _ _ _, editing_not_cutting, rfl, rfl, rfl⟩,
    fun _ => ⟨waiting_law _, floorCutting_admits _ _, rfl⟩,
    fun _ => ⟨floorWriting_law (by decide) _, ⟨⟨rfl, rfl, Nat.succ_pos 7⟩, rfl, rfl⟩, rfl⟩, by decide⟩

theorem witness_FlushAndClearsDoOnlyThat :
    ∀ body, (floorIn .editing (slot := some (ask body))).Admits (ask body)
      ∧ (floorCutting .waiting (slot := some (ask body))).Admits (ask body)
      ∧ ((floorIn .editing).notice .segmentUp).pending = false :=
  fun _ => ⟨floorIn_admits _ _ _, floorCutting_admits _ _, by decide +kernel⟩

/-- A restart is asked for in REHEARSING, in CUTTING, with a reliance lost, and during a store write. -/
theorem witness_RestartKeepsThePlanAndLightsEveryZone :
    ((floorIn .rehearsing (slot := some (ask [23]))).Law ∧ (floorIn .rehearsing (slot := some (ask [23]))).Admits (ask [23])
        ∧ (floorIn .rehearsing (slot := some (ask [23]))).store.writing = false)
      ∧ ((floorCutting .stepping (slot := some (ask [23]))).Law
        ∧ (floorCutting .stepping (slot := some (ask [23]))).Admits (ask [23]))
      ∧ ((floorLost (some (ask [23]))).Law ∧ (floorLost (some (ask [23]))).Admits (ask [23]))
      ∧ ∃ s : State, s.Law ∧ s.Admits (ask [23]) ∧ s.store.writing = true :=
  ⟨⟨floorIn_law (by decide) _ _ _ _ _, floorIn_admits _ _ _, rfl⟩, ⟨stepping_law _, floorCutting_admits _ _⟩,
    ⟨floorLost_law _, ⟨rfl, rfl, Nat.succ_pos 7⟩, rfl, rfl⟩, floorWriting .editing (some (ask [23])),
    floorWriting_law (by decide) _, ⟨⟨rfl, rfl, Nat.succ_pos 7⟩, rfl, rfl⟩, rfl⟩

/-- The sweep in each of its phases; zone 1 is the first present zone and zone 5 the last, zone 4 the one that is output-incomplete; the entry of
address 102 falls SILENT at the next pass once its segment is UP; and an expiry, and the end of a sweep, in CUTTING with a sweep deferred. -/
theorem witness_SweepRunsItsParts :
    (∀ phase, (floorIn .editing (phase := phase)).Law ∧ (floorIn .editing (phase := phase)).resetLow = false)
      ∧ (∀ phase, (floorIn .rehearsing (phase := phase)).Law)
      ∧ floor.settings.supervisionInterval ≤ floor.sweep.elapsed ∧ (floor.record 1).present = true
      ∧ (floor.stagedRecord 1).present = true ∧ floor.needsRefresh 4 = true ∧ nextZone floor.needsRefresh 0 = some 4
      ∧ nextZone (fun z => (floor.record z).present) 4 = some 5 ∧ nextZone (fun z => (floor.record z).present) 5 = none
      ∧ (∃ e ∈ floor.presence, e.heard = false ∧ e.state = .present ∧ floor.settings.silentLimit ≤ e.missed + 1
        ∧ (lookup floor.active.windows e.address).map Window.segment = some 1)
      ∧ (floorLost none).Law ∧ (floorLost none).sweep.deferred = true ∧ (floorLost none).sweep.phase = .refresh 0 :=
  ⟨fun _ => ⟨floorIn_law (by decide) _ _ _ _ _, rfl⟩, fun _ => floorIn_law (by decide) _ _ _ _ _, by decide +kernel,
    by decide +kernel, by decide +kernel, by decide +kernel, by decide +kernel, by decide +kernel, by decide +kernel,
    by decide, floorLost_law _, rfl, rfl⟩

/-- The part while RESETN is low, and after it in the store load, with the plan whole in the store image or an image whose check does not
agree. -/
def booting (low stored : Bool) : State :=
  { State.reset with
    resetLow := low
    loading := !low
    trunkAddress := 5
    store :=
      { image :=
          if stored then Image.whole { bank := plan, generation := 1, settings := .default, check := 0 }
          else Image.unwritten.partial
        status := .invalid, writing := false } }

theorem booting_law (low stored : Bool) : (booting low stored).Law := by
  have seg : ∀ n, (booting low stored).segment n = .afterReset := fun n => nth_replicate 4 Segment.afterReset n
  have dark : ∀ z, (booting low stored).zone z = .idle := fun z => nth_replicate 255 ZoneState.idle z
  have shade : ∀ z, (booting low stored).shadowZone z = .idle := fun z => nth_replicate 255 ZoneState.idle z
  have clear : ∀ c, (booting low stored).notice c = .clear := fun c => nth_replicate 21 NoticeState.clear (c.code + 1)
  have he := empty_valid
  have fine := default_inRange
  have image : (booting low stored).store.image.Lawful := by
    cases stored
    · exact unwritten_lawful.partial
    · exact plan_lawful.whole
  exact
    { queue := ⟨fun n => by rw [seg]; simp [Segment.QueueLaw, Segment.afterReset],
        ⟨Nat.zero_le _, Nat.zero_le _, Nat.zero_le _, List.Pairwise.nil, List.Pairwise.nil⟩, Nat.zero_le _,
        fun _ => ⟨rfl, rfl, rfl, rfl⟩⟩
      command := fun n c hc => by rw [seg] at hc; exact nomatch hc
      level := ⟨fun z => by rw [dark]; exact idle_level _, fun z => by rw [shade]; exact idle_level _,
        fun _ hc => (nomatch hc), fun _ => rfl⟩
      range := ⟨fun z => by rw [dark]; exact idle_inRange, fun z => by rw [shade]; exact idle_inRange,
        fun _ hc => (nomatch hc)⟩
      idle := fun z _ => dark z
      plan := ⟨he, he.1, fun h => absurd rfl h, fun _ => image.1⟩
      store := ⟨fun h => (nomatch h), fun h => (nomatch h), fun h => by rcases h with h | h <;> cases h⟩
      generation := ⟨fun _ => rfl, fun _ => image.2.2.2⟩
      pin := fun h => by rcases h with h | h | h <;> cases h
      reliance := fun h => by rcases h with h | h <;> cases h
      cutover := ⟨fun _ => ⟨rfl, rfl, rfl, fun z => by rw [dark]; rfl⟩, fun h => (nomatch h)⟩
      table := ⟨List.Pairwise.nil, List.Pairwise.nil, fun _ => Iff.rfl, fun _ he => (nomatch he)⟩
      cache := fun _ h => (nomatch h)
      report := fun z => by rw [dark]; rfl
      settings := ⟨fine, fun _ => image.2.1, fun n => by rw [seg]; exact Nat.zero_le _, Nat.zero_le _⟩
      count := ⟨fun n => by rw [seg]; decide, ⟨Nat.zero_le _, Nat.zero_le _⟩, fun c => by rw [clear]; decide, Nat.zero_le _, Nat.zero_le _,
        fun _ => image.2.2.1⟩
      load := fun _ => ⟨rfl, rfl, rfl, rfl, rfl, rfl, rfl, rfl, rfl, rfl, rfl, rfl, rfl, fun n => by rw [seg]; exact ⟨rfl, rfl⟩⟩ }

/-- RESETN low; the store load in progress with an image whose check agrees, and with one whose check does not; and a store write in progress. -/
theorem witness_ResetLoadAndStoreWrite :
    ((booting true true).Law ∧ (booting true true).resetLow = true)
      ∧ ((booting false true).Law ∧ (booting false true).resetLow = false ∧ (booting false true).loading = true
        ∧ (booting false true).store.image.agrees = true)
      ∧ ((booting false false).Law ∧ (booting false false).resetLow = false ∧ (booting false false).loading = true
        ∧ (booting false false).store.image.agrees = false)
      ∧ ∃ s : State, s.Law ∧ s.resetLow = false ∧ s.store.writing = true :=
  ⟨⟨booting_law _ _, rfl⟩, ⟨booting_law _ _, rfl, rfl, Image.whole_agrees _⟩,
    ⟨booting_law _ _, rfl, rfl, Image.partial_agrees _⟩, floorWriting .editing none, floorWriting_law (by decide) _, rfl, rfl⟩

end Sys2Proof.Tests
end

/-! # Frame classification (chapter 2): matching under a mask, the first match, the class of a frame -/

section
namespace Sys2Proof.Machine

/-- The key and the pattern have the same bit wherever the mask has a one (R25). -/
def AgreesUnder {w : Nat} (mask key pattern : BitVec w) : Prop :=
  ∀ i : Nat, mask.getLsbD i = true → key.getLsbD i = pattern.getLsbD i

/-- The hardware's test for agreement: no bit differs under the mask. -/
theorem masked_xor_eq_zero_iff {w : Nat} (mask key pattern : BitVec w) :
    (key ^^^ pattern) &&& mask = 0 ↔ AgreesUnder mask key pattern := by
  constructor
  · intro h i hm
    have hi : ((key ^^^ pattern) &&& mask).getLsbD i = false := by rw [h]; exact BitVec.getLsbD_zero
    simpa [hm] using hi
  · intro h
    refine BitVec.eq_of_getLsbD_eq fun i _ => ?_
    cases hm : mask.getLsbD i with
    | false => simp [hm]
    | true => simp [hm, h i hm]

/-- Words laid out one above the other agree exactly when their fields do: bit `i` of the low field is bit `i` of the whole, and
bit `i` of the high field is bit `i + v`. -/
theorem agreesUnder_append_iff {w v : Nat} (m x p : BitVec w) (n y q : BitVec v) :
    AgreesUnder (m ++ n) (x ++ y) (p ++ q) ↔ AgreesUnder m x p ∧ AgreesUnder n y q := by
  simp only [AgreesUnder, BitVec.getLsbD_append]
  constructor
  · intro h
    constructor
    · intro i hm
      have high : ¬ i + v < v := by omega
      simpa [high, hm] using h (i + v)
    · intro i hn
      have low : i < v := BitVec.lt_of_getLsbD hn
      simpa [low, hn] using h i
  · intro ⟨high, low⟩ i hm
    by_cases hi : i < v
    · simp only [if_pos hi] at hm ⊢
      exact low i hm
    · simp only [if_neg hi] at hm ⊢
      exact high (i - v) hm

/-- R25 in the fields of Table 2-3. -/
theorem matchesFrame_iff (e : ClassifierEntry) (f : FieldFrame) :
    e.matchesFrame f = true ↔
      e.present = true ∧ AgreesUnder e.kindMask f.kind e.kindPattern ∧ AgreesUnder e.pointMask f.point e.pointPattern
        ∧ AgreesUnder e.valueMask f.value e.valuePattern := by
  have key : AgreesUnder e.mask (matchKey f) e.pattern ↔
      (AgreesUnder e.kindMask f.kind e.kindPattern ∧ AgreesUnder e.pointMask f.point e.pointPattern)
        ∧ AgreesUnder e.valueMask f.value e.valuePattern :=
    (agreesUnder_append_iff ..).trans (and_congr_left' (agreesUnder_append_iff ..))
  rw [ClassifierEntry.matchesFrame, Bool.and_eq_true, beq_iff_eq, masked_xor_eq_zero_iff, key, and_assoc]

/-- R26: the winning entry stands at the least index that matches. -/
theorem winningEntry_eq_some_iff (table : Vector ClassifierEntry 32) (f : FieldFrame) (e : ClassifierEntry) :
    winningEntry table f = some e ↔
      ∃ i : Fin 32, table[i] = e ∧ e.matchesFrame f = true ∧ ∀ j : Fin 32, j < i → table[j].matchesFrame f = false := by
  rw [winningEntry, Vector.find?_toList, Vector.find?_eq_some_iff_getElem]
  constructor
  · rintro ⟨hit, i, hi, at_i, before⟩
    exact ⟨⟨i, hi⟩, at_i, hit, fun j hj => by simpa using before j hj⟩
  · rintro ⟨i, at_i, hit, before⟩
    exact ⟨hit, i, i.isLt, at_i, fun j hj => by simpa using before ⟨j, by omega⟩ hj⟩

theorem winningEntry_eq_none_of_no_match {table : Vector ClassifierEntry 32} {f : FieldFrame}
    (miss : ∀ i : Fin 32, table[i].matchesFrame f = false) : winningEntry table f = none := by
  rw [Option.eq_none_iff_forall_ne_some]
  intro e he
  obtain ⟨i, rfl, hit, -⟩ := (winningEntry_eq_some_iff table f e).1 he
  exact Bool.false_ne_true ((miss i).symm.trans hit)

theorem classOf_of_winningEntry {table : Vector ClassifierEntry 32} {f : FieldFrame} {e : ClassifierEntry}
    (h : winningEntry table f = some e) : classOf table f = e.cls := by
  simp [classOf, h]

/-- R27: a frame without a winning entry has the class PASS. -/
theorem classOf_of_no_winningEntry {table : Vector ClassifierEntry 32} {f : FieldFrame}
    (h : winningEntry table f = none) : classOf table f = .pass := by
  simp [classOf, h]

/-- Settles O29: the mask test of the 28-bit key is agreement field by field, and the scan for the winning entry stops at the
least matching index. -/
theorem matchingFollowsTheMask : Obligations.MatchingFollowsTheMask :=
  ⟨matchesFrame_iff, fun table f =>
    ⟨winningEntry_eq_some_iff table f, fun _ => classOf_of_winningEntry,
      fun miss => classOf_of_no_winningEntry (winningEntry_eq_none_of_no_match miss)⟩⟩

end Sys2Proof.Machine
end

/-! # The membership map (chapter 3): the window a lookup finds, and lookup in a valid bank's ascending list -/

section
namespace Sys2Proof.Machine

/-! ## Any window list -/

/-- The first window, in index order, whose high is at least `a`: every window before it ends below `a`. -/
theorem find?_reaching_eq_some_iff {windows : List Window} {a : Nat} {w : Window} :
    (windows.find? fun v => decide (a ≤ v.high)) = some w ↔
      a ≤ w.high ∧ ∃ before after, windows = before ++ w :: after ∧ ∀ v ∈ before, v.high < a := by
  simp [List.find?_eq_some_iff_append]

theorem find?_reaching_eq_none_iff {windows : List Window} {a : Nat} :
    (windows.find? fun v => decide (a ≤ v.high)) = none ↔ ∀ w ∈ windows, w.high < a := by
  simp

/-- The two steps of a lookup: the search by high, then the test of the low of the window found. -/
theorem lookup_eq_filter (windows : List Window) (a : Nat) :
    lookup windows a = (windows.find? fun v => decide (a ≤ v.high)).filter fun w => decide (w.low ≤ a) := by
  rw [lookup]
  cases windows.find? fun v => decide (a ≤ v.high) with
  | none => rfl
  | some w => simp [Option.filter]

/-- A hit of R40. -/
theorem lookup_eq_some_iff {windows : List Window} {a : Nat} {w : Window} :
    lookup windows a = some w ↔
      ∃ before after, windows = before ++ w :: after ∧ w.low ≤ a ∧ a ≤ w.high ∧ ∀ v ∈ before, v.high < a := by
  rw [lookup_eq_filter, Option.filter_eq_some_iff, find?_reaching_eq_some_iff, decide_eq_true_iff]
  constructor
  · rintro ⟨⟨reaches, before, after, eq, below⟩, starts⟩
    exact ⟨before, after, eq, starts, reaches, below⟩
  · rintro ⟨before, after, eq, starts, reaches, below⟩
    exact ⟨⟨reaches, before, after, eq, below⟩, starts⟩

/-- The two misses of R40: no high reaches `a`, or the first window that does starts above it. -/
theorem lookup_eq_none_iff {windows : List Window} {a : Nat} :
    lookup windows a = none ↔
      (∀ w ∈ windows, w.high < a)
        ∨ ∃ w before after, windows = before ++ w :: after ∧ a ≤ w.high ∧ a < w.low ∧ ∀ v ∈ before, v.high < a := by
  rw [lookup_eq_filter, ← find?_reaching_eq_none_iff]
  cases found : windows.find? fun v => decide (a ≤ v.high) with
  | none => simp
  | some u =>
    obtain ⟨reaches, before, after, eq, below⟩ := find?_reaching_eq_some_iff.1 found
    constructor
    · intro miss
      have late : a < u.low := by simpa [Option.filter] using miss
      exact .inr ⟨u, before, after, eq, reaches, late, below⟩
    · rintro (none_reaches | ⟨w, before', after', eq', reaches', late, below'⟩)
      · nomatch none_reaches
      · have same := found.symm.trans (find?_reaching_eq_some_iff.2 ⟨reaches', before', after', eq', below'⟩)
        cases same
        simpa [Option.filter] using late

/-! ## The ascending list of a valid bank -/

/-- Check ORDER compares neighbours only; windows that do not end before they start carry the order to every pair. -/
theorem checkOrder_eq_none_iff {windows : List Window} (proper : ∀ w ∈ windows, w.low ≤ w.high) (i : Nat) :
    checkOrder i windows = none ↔ windows.Pairwise fun w v => w.high < v.low := by
  induction windows generalizing i with
  | nil => simp [checkOrder]
  | cons w rest ih =>
    cases rest with
    | nil => simp [checkOrder]
    | cons v rest =>
      have v_proper : v.low ≤ v.high := proper v (by simp)
      have ih := ih (fun u hu => proper u (List.mem_cons_of_mem _ hu)) (i + 1)
      rw [checkOrder, List.pairwise_cons]
      split
      next ends_before =>
        rw [ih]
        refine ⟨fun ascending => ⟨fun u hu => ?_, ascending⟩, And.right⟩
        rcases List.mem_cons.1 hu with rfl | later
        · exact ends_before
        · have := List.rel_of_pairwise_cons ascending later
          omega
      next overlap =>
        simp [overlap]

theorem Bank.Valid.window_inRange {b : Bank} (valid : b.Valid) {w : Window} (hw : w ∈ b.windows) : w.InRange := by
  obtain ⟨⟨-, inRange, -⟩, -⟩ := valid
  exact inRange w hw

theorem Window.InRange.low_le_high {w : Window} (h : w.InRange) : w.low ≤ w.high := by
  obtain ⟨-, low_le_high, -⟩ := h
  exact low_le_high

/-- No window of Table 3-1's ranges holds address 0 or an address above 4000. -/
theorem Window.InRange.listed_address {w : Window} (h : w.InRange) {a : Nat} (starts : w.low ≤ a) (reaches : a ≤ w.high) :
    1 ≤ a ∧ a ≤ 4000 := by
  obtain ⟨low_pos, -, high_le, -⟩ := h
  exact ⟨low_pos.trans starts, reaches.trans high_le⟩

/-- The windows of a valid bank ascend and do not overlap (R39). -/
theorem Bank.Valid.windows_ascend {b : Bank} (valid : b.Valid) : b.windows.Pairwise fun w v => w.high < v.low := by
  have proper : ∀ w ∈ b.windows, w.low ≤ w.high := fun _ hw => (valid.window_inRange hw).low_le_high
  obtain ⟨-, passes⟩ := valid
  have order_passes : checkOrder 0 b.windows = none := by
    simp only [firstFailure, Option.orElse_eq_none, Option.map_eq_none_iff] at passes
    obtain ⟨order_passes, -⟩ := passes
    exact order_passes
  exact (checkOrder_eq_none_iff proper 0).1 order_passes

/-- In an ascending list every window before one that starts at or below `a` ends below `a`, so the lookup does not stop earlier. -/
theorem lookup_eq_some_iff_mem {windows : List Window} (ascend : windows.Pairwise fun w v => w.high < v.low) {a : Nat}
    {w : Window} : lookup windows a = some w ↔ w ∈ windows ∧ w.low ≤ a ∧ a ≤ w.high := by
  rw [lookup_eq_some_iff]
  constructor
  · rintro ⟨before, after, rfl, starts, reaches, -⟩
    exact ⟨List.mem_append_cons_self, starts, reaches⟩
  · rintro ⟨hw, starts, reaches⟩
    obtain ⟨before, after, rfl⟩ := List.append_of_mem hw
    obtain ⟨-, -, crosses⟩ := List.pairwise_append.1 ascend
    exact ⟨before, after, rfl, starts, reaches, fun v hv => (crosses v hv w List.mem_cons_self).trans_le starts⟩

theorem lookup_eq_none_iff_not_mem {windows : List Window} (ascend : windows.Pairwise fun w v => w.high < v.low) {a : Nat} :
    lookup windows a = none ↔ ∀ w ∈ windows, ¬(w.low ≤ a ∧ a ≤ w.high) := by
  simp only [Option.eq_none_iff_forall_ne_some, ne_eq, lookup_eq_some_iff_mem ascend, not_and]

/-- The windows of an ascending list are disjoint: a lookup has one answer, and each window that contains `a` is that answer. -/
theorem window_containing_unique {windows : List Window} (ascend : windows.Pairwise fun w v => w.high < v.low) {a : Nat}
    {w v : Window} (hw : w ∈ windows) (w_starts : w.low ≤ a) (w_reaches : a ≤ w.high) (hv : v ∈ windows) (v_starts : v.low ≤ a)
    (v_reaches : a ≤ v.high) : w = v :=
  Option.some.inj <|
    ((lookup_eq_some_iff_mem ascend).2 ⟨hw, w_starts, w_reaches⟩).symm.trans
      ((lookup_eq_some_iff_mem ascend).2 ⟨hv, v_starts, v_reaches⟩)

theorem Bank.Valid.lookup_unlisted {b : Bank} (valid : b.Valid) {a : Nat} (outside : a = 0 ∨ 4000 < a) :
    lookup b.windows a = none := by
  rw [lookup_eq_none_iff_not_mem valid.windows_ascend]
  rintro w hw ⟨starts, reaches⟩
  obtain ⟨pos, le⟩ := (valid.window_inRange hw).listed_address starts reaches
  omega

/-- Settles O15: the search stops at the first window whose high reaches the address; in a valid bank the windows ascend, so no
window before the one that contains the address reaches it. -/
theorem lookupFindsTheOneWindow : Obligations.LookupFindsTheOneWindow :=
  ⟨fun _ _ => ⟨fun _ => lookup_eq_some_iff, lookup_eq_none_iff⟩,
    fun _ _ valid =>
      have ascend := valid.windows_ascend
      ⟨fun _ => lookup_eq_some_iff_mem ascend, fun _ _ => window_containing_unique ascend,
        lookup_eq_none_iff_not_mem ascend, valid.lookup_unlisted⟩⟩

end Sys2Proof.Machine
end

/-! # Zone levels (chapters 4 and 5): the fixture level and the grace level, both a percentage rounded half up -/

section
namespace Sys2Proof.Machine

/-! ## A percentage rounded half up -/

/-- Rounding half up carries no percentage of `l` beyond `l`: the 50 added is less than one whole step of 100. -/
theorem roundedPercent_le_self (l : Nat) {q : Nat} (le_hundred : q ≤ 100) : (l * q + 50) / 100 ≤ l := by
  have scaled : l * q ≤ l * 100 := Nat.mul_le_mul_left l le_hundred
  omega

/-- Half or more of a level of at least 1 rounds to at least 1. -/
theorem one_le_roundedPercent {l q : Nat} (pos : 1 ≤ l) (half : 50 ≤ q) : 1 ≤ (l * q + 50) / 100 := by
  have scaled : 1 * 50 ≤ l * q := Nat.mul_le_mul pos half
  omega

/-! ## The fixture level (R67) -/

@[simp] theorem fixtureLevel_zero (trim : Nat) : fixtureLevel 0 trim = 0 := rfl

theorem fixtureLevel_of_ne_zero {level : Nat} (lit : level ≠ 0) (trim : Nat) :
    fixtureLevel level trim = max 1 ((level * trim + 50) / 100) :=
  if_neg lit

/-- With a trim of Table 3-1, 50 or more, the raise of a result of 0 to 1 never acts. -/
theorem fixtureLevel_eq_roundedPercent {level trim : Nat} (lit : 1 ≤ level) (half : 50 ≤ trim) :
    fixtureLevel level trim = (level * trim + 50) / 100 :=
  (fixtureLevel_of_ne_zero (Nat.ne_of_gt lit) trim).trans (max_eq_right (one_le_roundedPercent lit half))

/-! ## The grace level (R83) -/

theorem ZoneRecord.InRange.one_le_minOn {r : ZoneRecord} (h : r.InRange) : 1 ≤ r.minOn := by
  obtain ⟨-, ⟨one_le, -⟩, -⟩ := h
  exact one_le

theorem ZoneRecord.InRange.gracePercent_le {r : ZoneRecord} (h : r.InRange) : r.gracePercent ≤ 100 := by
  obtain ⟨-, -, -, -, -, percent_le, -⟩ := h
  exact percent_le

theorem ZoneRecord.graceLevel_dark (r : ZoneRecord) {p : Nat} (dark : p = 0 ∨ r.gracePercent = 0) : r.graceLevel p = 0 :=
  if_pos dark

theorem ZoneRecord.graceLevel_lit (r : ZoneRecord) {p : Nat} (lit : p ≠ 0) (percent : r.gracePercent ≠ 0) :
    r.graceLevel p = max r.minOn ((p * r.gracePercent + 50) / 100) :=
  if_neg (not_or_intro lit percent)

/-- Settles O28: a trim of at least 50 keeps a lit level at 1 or more, and a percentage of at most 100 never rounds above the level
it is taken of. -/
theorem fixtureAndGraceLevelsRound : Obligations.FixtureAndGraceLevelsRound := by
  constructor
  · intro level trim half trim_le
    refine ⟨fixtureLevel_zero trim, fun lit level_le => ?_⟩
    rw [fixtureLevel_eq_roundedPercent lit half]
    exact ⟨rfl, one_le_roundedPercent lit half, (roundedPercent_le_self level trim_le).trans level_le⟩
  · intro r p inRange
    refine ⟨r.graceLevel_dark, fun minOn_le percent => ?_⟩
    have lit : p ≠ 0 := Nat.ne_of_gt (inRange.one_le_minOn.trans minOn_le)
    rw [r.graceLevel_lit lit percent]
    exact ⟨rfl, le_max_left _ _, max_le minOn_le (roundedPercent_le_self p inRange.gracePercent_le)⟩

end Sys2Proof.Machine
end

/-! # The laws by the part of the state they bind: segments, uplink, zones, shadow; and what a run of the part leaves standing -/

section
namespace Sys2Proof.Machine

/-! ## The laws of one segment, of the uplink and of one zone -/

/-- What the laws ask of one segment: its queues, its waiting commands, its burst count and its receive counts. -/
structure Segment.Lawful (g : Segment) : Prop where
  queue : g.QueueLaw
  command : ∀ c ∈ g.commands, c.InRange
  burst : g.burst ≤ 32
  count : g.received ≤ 65535 ∧ g.malformed ≤ 65535 ∧ g.overflow ≤ 65535

/-- Every segment keeps its laws. -/
def State.SegmentsLaw (s : State) : Prop := ∀ n, (s.segment n).Lawful

/-- What the laws ask of the uplink queues, the discard counts and the records of the Notice Unit. -/
def State.UplinkLaw (s : State) : Prop :=
  s.uplink.QueueLaw
    ∧ (s.link = .down → s.uplink.replies = [] ∧ s.uplink.notices = [] ∧ s.uplink.forwards = [] ∧ s.uplink.traces = [])
    ∧ (s.uplink.forwardDiscards ≤ 65535 ∧ s.uplink.traceDiscards ≤ 65535)
    ∧ ∀ c, (s.notice c).counter ≤ 65535 ∧ ((s.notice c).pending = true → (s.notice c).occurrence = true)

/-- What the laws ask of a runtime zone state under its record. -/
structure ZoneState.Lawful (v : ZoneState) (r : ZoneRecord) : Prop where
  level : v.LevelLaw r
  range : v.InRange
  idle : r.present = false → v = .idle

/-- Every runtime zone state keeps its laws under its active record. -/
def State.ZonesLaw (s : State) : Prop := ∀ z, (s.zone z).Lawful (s.record z)

/-- What the laws ask of the shadow table: lawful under the staged records, and idle outside REHEARSING. -/
def State.ShadowLaw (s : State) : Prop :=
  (∀ z, (s.shadowZone z).LevelLaw (s.stagedRecord z) ∧ (s.shadowZone z).InRange)
    ∧ (s.staging ≠ .rehearsing → s.shadow = Vector.replicate 255 .idle)

/-- RESETN is high and no store load is in progress. -/
def State.Awake (s : State) : Prop := s.resetLow = false ∧ s.loading = false

section
variable {s : State}

theorem State.Law.segments (h : s.Law) : s.SegmentsLaw := fun n =>
  have ⟨queue, _⟩ := h.queue
  have ⟨_, _, burst, _⟩ := h.settings
  have ⟨count, _⟩ := h.count
  { queue := queue n, command := h.command n, burst := burst n, count := count n }

theorem State.Law.segment (h : s.Law) (n : Nat) : (s.segment n).Lawful := h.segments n

theorem State.Law.uplink (h : s.Law) : s.UplinkLaw :=
  have ⟨_, queue, _, down⟩ := h.queue
  have ⟨_, discards, notice, _⟩ := h.count
  ⟨queue, down, discards, notice⟩

theorem State.Law.zones (h : s.Law) : s.ZonesLaw := fun z =>
  { level := h.level.1 z, range := h.range.1 z, idle := h.idle z }

theorem State.Law.shadow (h : s.Law) : s.ShadowLaw :=
  have ⟨_, level, _, idle⟩ := h.level
  have ⟨_, range, _⟩ := h.range
  ⟨fun z => ⟨level z, range z⟩, idle⟩

theorem State.Law.number (h : s.Law) : s.sweep.number ≤ 65535 :=
  have ⟨_, _, _, number, _⟩ := h.count
  number

theorem State.Law.trace (h : s.Law) : s.engine.traceCount ≤ 254 :=
  have ⟨_, _, _, trace⟩ := h.settings
  trace

theorem State.Law.active_valid (h : s.Law) : s.active.Valid :=
  have ⟨active, _⟩ := h.plan
  active

theorem State.Law.active_stored (h : s.Law) : s.active.Stored :=
  have ⟨stored, _⟩ := h.active_valid
  stored

theorem State.Law.staged_stored (h : s.Law) : s.staged.Stored :=
  have ⟨_, staged, _⟩ := h.plan
  staged

theorem Bank.Stored.zone_inRange {b : Bank} (h : b.Stored) (z : Nat) : (b.zone z).InRange :=
  have ⟨_, _, inRange⟩ := h
  inRange z

theorem State.Law.record_inRange (h : s.Law) (z : Nat) : (s.record z).InRange := h.active_stored.zone_inRange z
theorem State.Law.stagedRecord_inRange (h : s.Law) (z : Nat) : (s.stagedRecord z).InRange := h.staged_stored.zone_inRange z

/-- The empty plan has no present zone. -/
theorem Bank.empty_zone (z : Nat) : Bank.empty.zone z = .cleared := nth_replicate 255 ZoneRecord.cleared z

/-- A zone number the part does not have names no present zone. -/
theorem Bank.zone_outside (b : Bank) {z : Nat} (h : z = 0 ∨ 255 < z) : b.zone z = .cleared := by
  obtain rfl | h := h
  · rfl
  · exact nth_of_lt _ _ h

theorem Bank.isZone_of_present {b : Bank} {z : Nat} (present : (b.zone z).present = true) : 1 ≤ z ∧ z ≤ 255 := by
  by_contra out
  rw [b.zone_outside (by omega)] at present
  exact Bool.false_ne_true present

theorem State.isZone_of_present {z : Nat} (present : (s.record z).present = true) : 1 ≤ z ∧ z ≤ 255 :=
  Bank.isZone_of_present present

/-- A present zone is there only once the store load has ended. -/
theorem State.Law.awake_of_present (h : s.Law) {z : Nat} (present : (s.record z).present = true) : s.Awake := by
  by_contra asleep
  have quiet : s.resetLow = true ∨ s.loading = true := by
    simp only [State.Awake] at asleep
    cases hr : s.resetLow <;> cases hl : s.loading <;> simp_all
  have empty : s.active = .empty := (h.load quiet).1
  rw [State.record, empty, Bank.empty_zone] at present
  exact Bool.false_ne_true present

/-- A zone that is not idle is present. -/
theorem State.Law.present_of_ne_idle (h : s.Law) {z : Nat} (busy : s.zone z ≠ .idle) : (s.record z).present = true := by
  by_contra absent
  exact busy (h.idle z (by simpa using absent))

theorem State.Awake.load (h : s.Awake) : s.LoadLaw := State.loadLaw_of_running h.1 h.2

end

/-! ## What stands -/

/-- The state but for what the running part writes on its own: the plan, the settings, staging and store, the reset lines and the
waiting commands stand. -/
def State.standing (s : State) : State :=
  { s with
    trunkAddress := 0, deviceTime := 0, segments := Vector.replicate 4 .afterReset, engine := .afterReset
    zones := Vector.replicate 255 .idle, shadow := Vector.replicate 255 .idle, cache := [], presence := []
    sweep := .afterReset, notices := Vector.replicate 21 .clear, uplink := .empty, link := .down
    trunkTransmitting := none, slot := none, freeCount := 0 }

/-- The laws after a step that leaves standing what stands, part by part. -/
theorem State.Law.ran {s t : State} (h : s.Law) (stands : t.standing = s.standing) (segments : t.SegmentsLaw)
    (uplink : t.UplinkLaw) (zones : t.ZonesLaw) (shadow : t.ShadowLaw)
    (frozen : ∀ z, (t.zone z).frozen = (s.zone z).frozen) (gate : t.engine.gateOpen = s.engine.gateOpen)
    (deferred : s.staging ≠ .cutting → t.sweep.deferred = s.sweep.deferred) (table : t.TableLaw) (cache : t.CacheLaw)
    (reports : t.ReportLaw) (trace : t.engine.traceCount ≤ 254) (number : t.sweep.number ≤ 65535) (load : t.LoadLaw) :
    t.Law := by
  have active : t.active = s.active := (congrArg State.active stands :)
  have staged : t.staged = s.staged := (congrArg State.staged stands :)
  have staging : t.staging = s.staging := (congrArg State.staging stands :)
  have result : t.result = s.result := (congrArg State.result stands :)
  have walk : t.walk = s.walk := (congrArg State.walk stands :)
  have store : t.store = s.store := (congrArg State.store stands :)
  have generation : t.generation = s.generation := (congrArg State.generation stands :)
  have settings : t.settings = s.settings := (congrArg State.settings stands :)
  have maint : t.maint = s.maint := (congrArg State.maint stands :)
  obtain ⟨-, -, held, -⟩ := h.queue
  obtain ⟨-, -, computedLevel, -⟩ := h.level
  obtain ⟨-, -, computedRange⟩ := h.range
  obtain ⟨uplinkQueue, down, discards, notice⟩ := uplink
  obtain ⟨shaded, dark⟩ := shadow
  obtain ⟨settingsRange, image, -, -⟩ := h.settings
  obtain ⟨-, -, -, -, generationCount, imageCount⟩ := h.count
  have walks : t.walks = s.walks := by funext z; simp only [State.walks, State.stagedRecord, active, staged]
  exact
    { queue := ⟨fun n => (segments n).queue, uplinkQueue, by rw [walk]; exact held, down⟩
      command := fun n => (segments n).command
      level := ⟨fun z => (zones z).level, fun z => (shaded z).1, by rw [walk]; simpa only [State.stagedRecord, staged] using computedLevel,
        dark⟩
      range := ⟨fun z => (zones z).range, fun z => (shaded z).2, by rw [walk]; exact computedRange⟩
      idle := fun z => (zones z).idle
      plan := by simpa only [State.PlanLaw, active, staged, staging, store] using h.plan
      store := by simpa only [State.StoreLaw, active, store, generation, settings] using h.store
      generation := by simpa only [State.GenerationLaw, active, store, generation] using h.generation
      pin := by simpa only [State.PinLaw, active, staged, staging, result] using h.pin
      reliance := by simpa only [State.RelianceLaw, staging, result, maint] using h.reliance
      cutover := by
        have hc := h.cutover
        refine ⟨fun free => ?_, fun cutting => ?_⟩
        · rw [staging] at free
          obtain ⟨noWalk, isOpen, none, thawed⟩ := hc.1 free
          exact ⟨walk.trans noWalk, gate.trans isOpen, (deferred free).trans none, fun z => (frozen z).trans (thawed z)⟩
        · rw [staging] at cutting
          obtain ⟨walkLaw, closed, quiet, ice⟩ := hc.2 cutting
          refine ⟨?_, gate.trans closed, by rw [store]; exact quiet, fun z => ?_⟩
          · simpa only [State.WalkLaw, walk, walks] using walkLaw
          · rw [frozen, ice, State.record, State.record, active]
      table := table
      cache := cache
      report := reports
      settings := ⟨by rw [settings]; exact settingsRange, by rw [store]; exact image, fun n => (segments n).burst, trace⟩
      count := ⟨fun n => (segments n).count, discards, notice, number, by rw [generation]; exact generationCount,
        by rw [store]; exact imageCount⟩
      load := load }

end Sys2Proof.Machine
end

/-! # What each shared operation keeps of the laws -/

section
namespace Sys2Proof.Machine

/-! ## Counts -/

theorem advanceCount_le {n : Nat} (h : n ≤ 65535) : advanceCount n ≤ 65535 := by
  unfold advanceCount; split <;> omega

theorem advanceCountBy_le {n : Nat} (h : n ≤ 65535) (k : Nat) : advanceCountBy n k ≤ 65535 := by
  unfold advanceCountBy; split <;> omega

/-! ## Reports of conditions -/

/-- A pending record has its occurrence flag set, before a report and after it. -/
theorem NoticeState.reported_lawful {n : NoticeState} (scope : Option Nat)
    (h : n.counter ≤ 65535 ∧ (n.pending = true → n.occurrence = true)) :
    (n.reported scope).counter ≤ 65535 ∧ ((n.reported scope).pending = true → (n.reported scope).occurrence = true) := by
  obtain ⟨small, marked⟩ := h
  refine ⟨by rw [reported_counter]; exact advanceCount_le small, fun _ => ?_⟩
  unfold reported
  split
  · next waits => exact marked waits
  · rfl

/-- A report joins the notice queue or leaves it; it joins only while the trunk is UP. -/
theorem report_notices_cases (c : Condition) (scope : Option Nat) (s : State) :
    (report c scope s).uplink.notices = s.uplink.notices
      ∨ s.link = .up ∧ ∃ r, (report c scope s).uplink.notices = joinNotices s.uplink.notices r := by
  simp only [report]
  split
  · next h =>
    obtain ⟨-, -, up⟩ := h
    exact .inr ⟨up, _, rfl⟩
  · exact .inl rfl

theorem State.UplinkLaw.report {s : State} (h : s.UplinkLaw) (c : Condition) (scope : Option Nat) :
    (report c scope s).UplinkLaw := by
  obtain ⟨⟨replies, forwards, traces, reports, notices⟩, down, discards, notice⟩ := h
  refine ⟨?_, ?_, ?_, fun d => ?_⟩
  · rw [report_uplink]
    refine ⟨replies, forwards, traces, reports, ?_⟩
    obtain same | ⟨-, r, joined⟩ := report_notices_cases c scope s
    · exact same ▸ notices
    · exact joined ▸ joinNotices_nodup r notices
  · intro isDown
    rw [report_link] at isDown
    obtain ⟨noReply, noNotice, rest⟩ := down isDown
    rw [report_uplink]
    refine ⟨noReply, ?_, rest⟩
    obtain same | ⟨up, -⟩ := report_notices_cases c scope s
    · exact same.trans noNotice
    · rw [isDown] at up; cases up
  · rw [report_uplink]; exact discards
  · rw [notice_report]
    split
    · exact NoticeState.reported_lawful scope (notice c)
    · exact notice d

/-! ## Offers of commands -/

/-- What a sequence of offered commands and reported conditions does: it writes command queues, the Notice Unit and its queue, and
output-incomplete flags of present zones, and keeps the laws of segments and uplink. -/
structure State.Offers (s t : State) : Prop where
  frame : t =
    { s with
      segments := t.segments, zones := t.zones, notices := t.notices
      uplink := { s.uplink with notices := t.uplink.notices } }
  segments : s.SegmentsLaw → t.SegmentsLaw
  uplink : s.UplinkLaw → t.UplinkLaw
  zone : ∀ z, t.zone z = s.zone z ∨ (s.record z).present = true ∧ t.zone z = { s.zone z with outputIncomplete := true }

section
variable {s t u : State}

theorem State.Offers.refl (s : State) : s.Offers s := ⟨rfl, id, id, fun _ => .inl rfl⟩

theorem State.Offers.stands (h : s.Offers t) : t.standing = s.standing := by rw [h.frame]; rfl
theorem State.Offers.active (h : s.Offers t) : t.active = s.active := (congrArg State.active h.frame :)
theorem State.Offers.shadow (h : s.Offers t) : t.shadow = s.shadow := (congrArg State.shadow h.frame :)
theorem State.Offers.engine (h : s.Offers t) : t.engine = s.engine := (congrArg State.engine h.frame :)
theorem State.Offers.sweep (h : s.Offers t) : t.sweep = s.sweep := (congrArg State.sweep h.frame :)
theorem State.Offers.cache (h : s.Offers t) : t.cache = s.cache := (congrArg State.cache h.frame :)
theorem State.Offers.presence (h : s.Offers t) : t.presence = s.presence := (congrArg State.presence h.frame :)
theorem State.Offers.reports (h : s.Offers t) : t.uplink.reports = s.uplink.reports :=
  (congrArg (fun v : State => v.uplink.reports) h.frame :)
theorem State.Offers.record (h : s.Offers t) (z : Nat) : t.record z = s.record z := by
  rw [State.record, h.active]; rfl

theorem State.Offers.trans (h : s.Offers t) (k : t.Offers u) : s.Offers u where
  frame := by rw [k.frame, h.frame]
  segments := k.segments ∘ h.segments
  uplink := k.uplink ∘ h.uplink
  zone z := by
    rw [← h.record]
    obtain eq | ⟨present, eq⟩ := h.zone z <;> obtain eq' | ⟨present', eq'⟩ := k.zone z
    · exact .inl (eq'.trans eq)
    · exact .inr ⟨present', by rw [eq', eq]⟩
    · exact .inr ⟨by rwa [h.record], by rw [eq', eq]⟩
    · exact .inr ⟨present', by rw [eq', eq]⟩

theorem State.Offers.report (c : Condition) (scope : Option Nat) (s : State) : s.Offers (report c scope s) where
  frame := by rw [← report_uplink]; rfl
  segments h := h
  uplink h := h.report c scope
  zone _ := .inl rfl

/-- The laws of one segment after a write. -/
theorem State.SegmentsLaw.setSegment (h : s.SegmentsLaw) (n : Nat) {g : Segment} (lawful : g.Lawful) :
    (s.setSegment n g).SegmentsLaw := by
  intro m
  rw [State.segment_setSegment]
  split
  · exact lawful
  · exact h m

/-- The laws of a command queue after a command in range was accepted. -/
theorem Segment.Lawful.accept {g : Segment} (h : g.Lawful) {c : CommandEntry} (inRange : c.InRange) {q : List CommandEntry}
    (accepted : acceptCommand g.commands c = some q) : ({ g with commands := q } : Segment).Lawful := by
  obtain ⟨⟨ingress, commands, stations, keys⟩, command, burst, count⟩ := h
  obtain ⟨-, eq⟩ | ⟨fresh, room, eq⟩ | ⟨-, -, eq⟩ := acceptCommand_cases g.commands c
  · rw [eq] at accepted
    obtain rfl := Option.some.inj accepted
    refine ⟨⟨ingress, by simpa using commands, stations, ?_⟩, ?_, burst, count⟩
    · rwa [map_replace_keys (fun c : CommandEntry => (c.destination, c.kind)) c _ _ fun x _ same => by rw [same.1, same.2]]
    · intro x hx
      obtain ⟨y, hy, rfl⟩ := List.mem_map.1 hx
      split
      · exact inRange
      · exact command y hy
  · rw [eq] at accepted
    obtain rfl := Option.some.inj accepted
    refine ⟨⟨ingress, by simp; omega, stations, ?_⟩, ?_, burst, count⟩
    · rw [List.map_append, List.nodup_append]
      refine ⟨keys, by simp, ?_⟩
      simp only [List.mem_map, List.map_cons, List.map_nil, List.mem_singleton]
      rintro _ ⟨x, hx, rfl⟩ _ rfl same
      exact fresh x hx (by simpa using same)
    · intro x hx
      obtain hx | hx := List.mem_append.1 hx
      · exact command x hx
      · rw [List.mem_singleton.1 hx]; exact inRange
  · rw [eq] at accepted; cases accepted

theorem State.Offers.offerCommand (n : Nat) {c : CommandEntry} (s : State) (inRange : c.InRange)
    (present : (s.record c.zone).present = true) : s.Offers (offerCommand n c s) := by
  obtain ⟨q, accepted, eq⟩ | ⟨-, eq⟩ := offerCommand_cases n c s
  · rw [eq]
    exact ⟨rfl, fun h => h.setSegment n ((h n).accept inRange accepted), fun h => h, fun _ => .inl rfl⟩
  · rw [eq]
    refine (State.Offers.report .commandOverflow (some n) s).trans
      ⟨rfl, fun h => h, fun h => h, fun z => ?_⟩
    rw [State.zone_setZone]
    split
    · next same => obtain ⟨rfl, -⟩ := same; exact .inr ⟨present, rfl⟩
    · exact .inl rfl

/-- The commands of a list lie in range, and their zones are present. -/
def State.Offerable (s : State) (cs : List (Nat × CommandEntry)) : Prop :=
  ∀ c ∈ cs, c.2.InRange ∧ (s.record c.2.zone).present = true

theorem State.Offers.offerCommands {cs : List (Nat × CommandEntry)} (s : State) (offerable : s.Offerable cs) :
    s.Offers (offerCommands cs s) :=
  offerCommands_induction cs s (.refl s) fun t c hc k =>
    have ⟨inRange, present⟩ := offerable c hc
    k.trans (.offerCommand c.1 t inRange (by rwa [k.record]))

/-- The fixture level of a level of at most 1000 is at most 1000. -/
theorem fixtureLevel_le {level trim : Nat} (small : level ≤ 1000) (half : 50 ≤ trim) (trim_le : trim ≤ 100) :
    fixtureLevel level trim ≤ 1000 := by
  obtain rfl | lit := Nat.eq_zero_or_pos level
  · simp
  · rw [fixtureLevel_eq_roundedPercent lit half]
    exact (roundedPercent_le_self level trim_le).trans small

theorem State.offerable_levelCommands {z level fade : Nat} (stored : s.active.Stored) (present : (s.record z).present = true)
    (small : level ≤ 1000) (fade_le : fade ≤ 15) : s.Offerable (levelCommands s.active.windows z level fade) := by
  intro c hc
  obtain ⟨m, hm, rfl⟩ := List.mem_map.1 hc
  obtain ⟨listed, -, -, -, starts, reaches⟩ := mem_membersOfRole.1 hm
  obtain ⟨-, inRange, -⟩ := stored
  have inRange := inRange _ listed
  have ⟨_, _, _, _, _, _, half, trim_le, _⟩ := inRange
  exact ⟨⟨inRange.listed_address starts reaches, fixtureLevel_le small half trim_le, fade_le, nofun,
    State.isZone_of_present present⟩, present⟩

theorem State.offerable_damperCommands {z position : Nat} (stored : s.active.Stored) (present : (s.record z).present = true)
    (small : position ≤ 1000) : s.Offerable (damperCommands s.active.windows z position) := by
  intro c hc
  obtain ⟨m, hm, rfl⟩ := List.mem_map.1 hc
  obtain ⟨listed, -, -, -, starts, reaches⟩ := mem_membersOfRole.1 hm
  obtain ⟨-, inRange, -⟩ := stored
  exact ⟨⟨(inRange _ listed).listed_address starts reaches, small, Nat.zero_le _, fun _ => rfl,
    State.isZone_of_present present⟩, present⟩

/-- A level that keeps the law of R61 is at most 1000. -/
theorem ZoneState.LevelLaw.level_le {v : ZoneState} {r : ZoneRecord} (h : v.LevelLaw r) : v.level ≤ 1000 := by
  obtain ⟨-, level, -⟩ := h
  by_contra above
  have ⟨_, le⟩ := level (by omega)
  exact above le

/-- A level issue of a present zone with a fade code in range. -/
theorem State.Offers.levelIssue {z fade : Nat} (stored : s.active.Stored) (zones : s.ZonesLaw)
    (present : (s.record z).present = true) (fade_le : fade ≤ 15) : s.Offers (levelIssue z fade s) :=
  .offerCommands s (s.offerable_levelCommands stored present (zones z).level.level_le fade_le)

theorem ZoneRecord.InRange.normalFade_le {r : ZoneRecord} (h : r.InRange) : r.normalFade ≤ 15 := by
  obtain ⟨-, -, -, -, -, -, -, -, fade, -⟩ := h; exact fade
theorem ZoneRecord.InRange.rezoneFade_le {r : ZoneRecord} (h : r.InRange) : r.rezoneFade ≤ 15 := by
  obtain ⟨-, -, -, -, -, -, -, -, -, fade, -⟩ := h; exact fade
theorem ZoneRecord.InRange.minOn_le {r : ZoneRecord} (h : r.InRange) : r.minOn ≤ 1000 := by
  obtain ⟨-, ⟨-, le⟩, -⟩ := h; exact le

theorem State.Offers.normalIssue {z : Nat} (stored : s.active.Stored) (zones : s.ZonesLaw)
    (present : (s.record z).present = true) : s.Offers (normalIssue z s) :=
  .levelIssue stored zones present (stored.zone_inRange z).normalFade_le

theorem State.Offers.damperIssue {z : Nat} (stored : s.active.Stored) (zones : s.ZonesLaw)
    (present : (s.record z).present = true) : s.Offers (damperIssue z s) := by
  obtain ⟨-, eq⟩ | ⟨p, known, eq⟩ := damperIssue_cases z s
  · rw [eq]; exact .refl s
  · rw [eq]
    obtain ⟨-, -, -, -, -, -, -, damper⟩ := (zones z).range
    exact .offerCommands s (s.offerable_damperCommands stored present (damper p known))

/-- Offers leave every zone's laws: the flag they may set binds no level, timer or temperature. -/
theorem State.Offers.zonesLaw (h : s.Offers t) (zones : s.ZonesLaw) : t.ZonesLaw := by
  intro z
  obtain ⟨level, range, idle⟩ := zones z
  rw [h.record]
  obtain eq | ⟨present, eq⟩ := h.zone z
  · rw [eq]; exact ⟨level, range, idle⟩
  · rw [eq]; exact ⟨level, range, fun absent => absurd present (by simp [absent])⟩

theorem State.Offers.frozen (h : s.Offers t) (z : Nat) : (t.zone z).frozen = (s.zone z).frozen := by
  obtain eq | ⟨-, eq⟩ := h.zone z <;> rw [eq]

theorem State.Offers.reportPending (h : s.Offers t) (z : Nat) : (t.zone z).reportPending = (s.zone z).reportPending := by
  obtain eq | ⟨-, eq⟩ := h.zone z <;> rw [eq]

theorem State.Offers.reportLaw (h : s.Offers t) (reports : s.ReportLaw) : t.ReportLaw := by
  intro z
  rw [h.reportPending, reports z, State.reportWaits, State.reportWaits, h.reports]

/-- Offers, made while the part is awake, keep every law. -/
theorem State.Law.offers (h : s.Law) (k : s.Offers t) (awake : s.Awake) : t.Law :=
  h.ran k.stands (k.segments h.segments) (k.uplink h.uplink) (k.zonesLaw h.zones)
    (by
      obtain ⟨shaded, idle⟩ := h.shadow
      have shadow := k.shadow
      have staged : t.staged = s.staged := (congrArg State.staged k.stands :)
      have staging : t.staging = s.staging := (congrArg State.staging k.stands :)
      exact ⟨by simpa only [State.shadowZone, State.stagedRecord, shadow, staged] using shaded, by rw [staging, shadow]; exact idle⟩)
    k.frozen (by rw [k.engine]) (fun _ => by rw [k.sweep])
    (by simpa only [State.TableLaw, k.cache, k.presence, k.active] using h.table)
    (by simpa only [State.CacheLaw, k.cache, k.active] using h.cache)
    (k.reportLaw h.report) (by rw [k.engine]; exact h.trace) (by rw [k.sweep]; exact h.number)
    (State.Awake.load
      ⟨(congrArg State.resetLow k.stands :).trans awake.1, (congrArg State.loading k.stands :).trans awake.2⟩)

end

end Sys2Proof.Machine
end

/-! # Every law across the writes of a segment, a zone, the uplink and the sweep -/

section
namespace Sys2Proof.Machine

section
variable {s t u : State}

/-! ## Reports and segments -/

/-- A report writes the Notice Unit and the notice queue alone. -/
theorem report_frame (c : Condition) (scope : Option Nat) (s : State) :
    report c scope s =
      { s with
        notices := (report c scope s).notices
        uplink := { s.uplink with notices := (report c scope s).uplink.notices } } :=
  (State.Offers.report c scope s).frame

@[simp] theorem report_standing (c : Condition) (scope : Option Nat) (s : State) :
    (report c scope s).standing = s.standing := rfl

@[simp] theorem report_reports (c : Condition) (scope : Option Nat) (s : State) :
    (report c scope s).uplink.reports = s.uplink.reports := by rw [report_frame]

@[simp] theorem report_replies (c : Condition) (scope : Option Nat) (s : State) :
    (report c scope s).uplink.replies = s.uplink.replies := by rw [report_frame]

theorem State.LoadLaw.report (h : s.LoadLaw) (c : Condition) (scope : Option Nat) : (report c scope s).LoadLaw := by
  rw [report_frame]; exact h

theorem State.Law.reported (h : s.Law) (c : Condition) (scope : Option Nat) : (Machine.report c scope s).Law :=
  h.ran rfl h.segments (h.uplink.report c scope) h.zones h.shadow (fun _ => rfl) rfl (fun _ => rfl) h.table h.cache
    ((State.Offers.report c scope s).reportLaw h.report) h.trace h.number (h.load.report c scope)

theorem State.LoadLaw.setSegment (h : s.LoadLaw) (n : Nat) {g : Segment}
    (quiet : (s.segment n).commands = [] → (s.segment n).stations = [] → g.commands = [] ∧ g.stations = []) :
    (s.setSegment n g).LoadLaw := by
  intro resting
  obtain ⟨active, staged, generation, settings, staging, zones, cache, presence, current, phase, status, writing, reports,
    segments⟩ := h resting
  refine ⟨active, staged, generation, settings, staging, zones, cache, presence, current, phase, status, writing, reports,
    fun m => ?_⟩
  rw [State.segment_setSegment]
  split
  · obtain ⟨commands, stations⟩ := segments n
    exact quiet commands stations
  · exact segments m

/-- A segment may be written with its laws kept, when empty output queues stay empty. -/
theorem State.Law.setSegment (h : s.Law) (n : Nat) {g : Segment} (lawful : g.Lawful)
    (quiet : (s.segment n).commands = [] → (s.segment n).stations = [] → g.commands = [] ∧ g.stations = []) :
    (s.setSegment n g).Law :=
  h.ran rfl (h.segments.setSegment n lawful) h.uplink h.zones h.shadow (fun _ => rfl) rfl (fun _ => rfl) h.table h.cache h.report
    h.trace h.number (h.load.setSegment n quiet)

/-! ## Zones and their reports -/

/-- What a write of a zone state leaves to reports and cutover. -/
structure ZoneState.SameMarks (v w : ZoneState) : Prop where
  frozen : v.frozen = w.frozen
  reportPending : v.reportPending = w.reportPending

theorem State.zone_setZone_cases (s : State) (z y : Nat) (v : ZoneState) :
    (y = z ∧ (s.setZone z v).zone y = v) ∨ (s.setZone z v).zone y = s.zone y := by
  rw [State.zone_setZone]
  split
  · next h => exact .inl ⟨h.1, rfl⟩
  · exact .inr rfl

/-- A present zone may be written with its laws kept. -/
theorem State.Law.setZone (h : s.Law) {z : Nat} {v : ZoneState} (present : (s.record z).present = true)
    (level : v.LevelLaw (s.record z)) (range : v.InRange) (marks : v.SameMarks (s.zone z)) : (s.setZone z v).Law :=
  h.ran rfl h.segments h.uplink
    (fun y => by
      obtain ⟨rfl, eq⟩ | eq := s.zone_setZone_cases z y v
      · rw [eq]; exact ⟨level, range, fun absent => absurd present (by simpa using absent)⟩
      · rw [eq]; exact h.zones y)
    h.shadow
    (fun y => by
      obtain ⟨rfl, eq⟩ | eq := s.zone_setZone_cases z y v
      · rw [eq]; exact marks.frozen
      · rw [eq])
    rfl (fun _ => rfl) h.table h.cache
    (fun y => by
      obtain ⟨rfl, eq⟩ | eq := s.zone_setZone_cases z y v
      · rw [eq, marks.reportPending]; exact h.report y
      · rw [eq]; exact h.report y)
    h.trace h.number (State.Awake.load (h.awake_of_present present))

/-- What waits once a report has joined. -/
theorem joinReports_any (q : List ZoneReport) (r : ZoneReport) (z : Nat) :
    ((joinReports q r).any fun x => x.zone == z) = (r.zone == z || q.any fun x => x.zone == z) := by
  rw [Bool.eq_iff_iff]
  simp only [List.any_eq_true, Bool.or_eq_true, beq_iff_eq, mem_joinReports]
  constructor
  · rintro ⟨x, rfl | ⟨hx, -⟩, hz⟩
    · exact .inl hz
    · exact .inr ⟨x, hx, hz⟩
  · rintro (hz | ⟨x, hx, hz⟩)
    · exact ⟨r, .inl rfl, hz⟩
    · by_cases same : x.zone = r.zone
      · exact ⟨r, .inl rfl, same.symm.trans hz⟩
      · exact ⟨x, .inr ⟨hx, same⟩, hz⟩

@[simp] theorem queueReport_standing (z : Nat) (s : State) : (queueReport z s).standing = s.standing := rfl

theorem zone_queueReport (z y : Nat) (s : State) :
    (queueReport z s).zone y = if y = z ∧ 1 ≤ z ∧ z ≤ 255 then { s.zone z with reportPending := true } else s.zone y :=
  nth_put s.zones .idle _ z y

theorem reportWaits_queueReport (z y : Nat) (s : State) :
    (queueReport z s).reportWaits y = (z == y || s.reportWaits y) :=
  joinReports_any s.uplink.reports (formReport s z) y

theorem State.UplinkLaw.queueReport (h : s.UplinkLaw) (z : Nat) : (queueReport z s).UplinkLaw := by
  obtain ⟨⟨replies, forwards, traces, reports, notices⟩, down, discards, notice⟩ := h
  exact ⟨⟨replies, forwards, traces, joinReports_nodup _ reports, notices⟩, down, discards, notice⟩

theorem State.Law.queueReport (h : s.Law) {z : Nat} (present : (s.record z).present = true) : (queueReport z s).Law :=
  have isZone := State.isZone_of_present present
  have zone (y : Nat) : (y = z ∧ (Machine.queueReport z s).zone y = { s.zone z with reportPending := true })
      ∨ y ≠ z ∧ (Machine.queueReport z s).zone y = s.zone y := by
    rw [zone_queueReport]
    by_cases same : y = z
    · exact .inl ⟨same, if_pos ⟨same, isZone⟩⟩
    · exact .inr ⟨same, if_neg fun k => same k.1⟩
  h.ran rfl h.segments (h.uplink.queueReport z)
    (fun y => by
      obtain ⟨rfl, eq⟩ | ⟨-, eq⟩ := zone y
      · obtain ⟨level, range, -⟩ := h.zones y
        rw [eq]; exact ⟨level, range, fun absent => absurd present (by simpa using absent)⟩
      · rw [eq]; exact h.zones y)
    h.shadow
    (fun y => by obtain ⟨rfl, eq⟩ | ⟨-, eq⟩ := zone y <;> rw [eq])
    rfl (fun _ => rfl) h.table h.cache
    (fun y => by
      rw [reportWaits_queueReport]
      obtain ⟨rfl, eq⟩ | ⟨other, eq⟩ := zone y
      · rw [eq]; simp
      · rw [eq, h.report y]; simp [Ne.symm other])
    h.trace h.number (State.Awake.load (h.awake_of_present present))

theorem State.Law.sweepReport (h : s.Law) {z : Nat} (present : (s.record z).present = true) : (sweepReport z s).Law := by
  unfold Machine.sweepReport
  split
  · exact (h.queueReport present).reported _ _
  · exact h.queueReport present

theorem State.Law.normalIssue (h : s.Law) {z : Nat} (present : (s.record z).present = true) : (normalIssue z s).Law :=
  h.offers (.normalIssue h.active_stored h.zones present) (h.awake_of_present present)

theorem State.Law.damperIssue (h : s.Law) {z : Nat} (present : (s.record z).present = true) : (damperIssue z s).Law :=
  h.offers (.damperIssue h.active_stored h.zones present) (h.awake_of_present present)

theorem State.Law.reportOnChange (h : s.Law) {z : Nat} (present : (s.record z).present = true) (before : Occupancy) :
    (reportOnChange before z s).Law := by
  obtain eq | eq := reportOnChange_cases before z s <;> rw [eq]
  · exact h.queueReport present
  · exact h

/-- The active records are those of before after offers and writes of zones. -/
theorem State.record_eq_of_standing (stands : t.standing = s.standing) (z : Nat) : t.record z = s.record z := by
  have active : t.active = s.active := (congrArg State.active stands :)
  rw [State.record, active]; rfl

section
variable {z : Nat} {after : ZoneState}

theorem State.Law.issueAfter (h : s.Law) (present : (s.record z).present = true) (level : after.LevelLaw (s.record z))
    (range : after.InRange) (marks : after.SameMarks (s.zone z)) :
    (Machine.normalIssue z (s.setZone z after)).Law
      ∧ ((Machine.normalIssue z (s.setZone z after)).record z).present = true := by
  have written := h.setZone present level range marks
  have offers := State.Offers.normalIssue written.active_stored written.zones (z := z) present
  exact ⟨written.normalIssue present, by rw [offers.record]; exact present⟩

/-- An event at a present zone keeps every law, when the zone state it leaves keeps the zone's. -/
theorem State.Law.zoneEvent (h : s.Law) (present : (s.record z).present = true) (level : after.LevelLaw (s.record z))
    (range : after.InRange) (marks : after.SameMarks (s.zone z)) : (zoneEvent z after s).Law := by
  obtain ⟨issued, present'⟩ := h.issueAfter present level range marks
  unfold Machine.zoneEvent
  split
  · exact issued.reportOnChange present' _
  · exact (h.setZone present level range marks).reportOnChange present _

/-- A zone action keeps every law, when the zone state it leaves keeps the zone's. -/
theorem State.Law.zoneAction (h : s.Law) (present : (s.record z).present = true) (level : after.LevelLaw (s.record z))
    (range : after.InRange) (marks : after.SameMarks (s.zone z)) : (zoneAction z after s).Law := by
  obtain ⟨issued, present'⟩ := h.issueAfter present level range marks
  exact issued.reportOnChange present' _

end

/-! ## The uplink queues -/

/-- A write of the uplink that keeps its laws and the waiting reports. -/
theorem State.Law.setUplink (h : s.Law) {q : Uplink} (uplink : ({ s with uplink := q } : State).UplinkLaw)
    (reports : q.reports = s.uplink.reports) : ({ s with uplink := q } : State).Law :=
  h.ran rfl h.segments uplink h.zones h.shadow (fun _ => rfl) rfl (fun _ => rfl) h.table h.cache
    (fun z => by
      have waits := h.report z
      rw [State.reportWaits] at waits ⊢
      rw [reports]; exact waits)
    h.trace h.number
    (fun resting => by
      obtain ⟨active, staged, generation, settings, staging, zones, cache, presence, current, phase, status, writing, noReport,
        segments⟩ := h.load resting
      exact ⟨active, staged, generation, settings, staging, zones, cache, presence, current, phase, status, writing,
        reports.trans noReport, segments⟩)

theorem State.Law.offerReply (h : s.Law) (r : Reply) (room : s.uplink.replies.length < 8) : (offerReply r s).Law := by
  have up := h.uplink
  refine h.setUplink ?_ (by split <;> rfl)
  split
  · next isUp =>
    obtain ⟨⟨-, forwards, traces, reports, notices⟩, -, discards, notice⟩ := up
    exact ⟨⟨by simpa using room, forwards, traces, reports, notices⟩, fun isDown => by simp [isUp] at isDown, discards, notice⟩
  · exact up

theorem State.Law.offerForward (h : s.Law) (f : FieldUp) : (offerForward f s).Law := by
  have up := h.uplink
  refine h.setUplink ?_ (by split <;> rfl)
  obtain ⟨⟨replies, forwards, traces, reports, notices⟩, down, ⟨forwarded, traced⟩, notice⟩ := up
  split
  · next fits =>
    obtain ⟨isUp, room⟩ := fits
    exact ⟨⟨replies, by simpa using room, traces, reports, notices⟩, fun isDown => by simp [isUp] at isDown,
      ⟨forwarded, traced⟩, notice⟩
  · exact ⟨⟨replies, forwards, traces, reports, notices⟩, down, ⟨advanceCount_le forwarded, traced⟩, notice⟩

theorem State.Law.offerTrace (h : s.Law) (x : Trace) : (offerTrace x s).Law := by
  have up := h.uplink
  refine h.setUplink ?_ (by split <;> rfl)
  obtain ⟨⟨replies, forwards, traces, reports, notices⟩, down, ⟨forwarded, traced⟩, notice⟩ := up
  split
  · next fits =>
    obtain ⟨isUp, room⟩ := fits
    exact ⟨⟨replies, forwards, by simpa using room, reports, notices⟩, fun isDown => by simp [isUp] at isDown,
      ⟨forwarded, traced⟩, notice⟩
  · exact ⟨⟨replies, forwards, traces, reports, notices⟩, down, ⟨forwarded, advanceCount_le traced⟩, notice⟩

/-! ## The sweep -/

/-- What the going on and the timing of a sweep do: they write the sweep but its number, the Notice Unit and the notice queue, and
defer a sweep only while CUTTING. -/
structure State.Settles (s t : State) : Prop where
  frame : t =
    { s with
      sweep := t.sweep, notices := t.notices
      uplink := { s.uplink with notices := t.uplink.notices } }
  uplink : s.UplinkLaw → t.UplinkLaw
  number : t.sweep.number = s.sweep.number
  deferred : s.staging ≠ .cutting → t.sweep.deferred = s.sweep.deferred

theorem State.Settles.refl (s : State) : s.Settles s := ⟨rfl, id, rfl, fun _ => rfl⟩

theorem State.Settles.staging (h : s.Settles t) : t.staging = s.staging := (congrArg State.staging h.frame :)

theorem State.Settles.trans (h : s.Settles t) (k : t.Settles u) : s.Settles u where
  frame := by rw [k.frame, h.frame]
  uplink := k.uplink ∘ h.uplink
  number := k.number.trans h.number
  deferred free := (k.deferred (by rwa [h.staging])).trans (h.deferred free)

/-- A write of the sweep alone. -/
theorem State.Settles.sweep (s : State) (w : Sweep) (number : w.number = s.sweep.number)
    (deferred : s.staging ≠ .cutting → w.deferred = s.sweep.deferred) : s.Settles { s with sweep := w } :=
  ⟨rfl, id, number, deferred⟩

theorem State.Settles.report (c : Condition) (scope : Option Nat) (s : State) : s.Settles (report c scope s) :=
  ⟨report_frame c scope s, fun h => h.report c scope, rfl, fun _ => rfl⟩

theorem State.Settles.deferSweep (s : State) (cutting : s.staging = .cutting) : s.Settles (deferSweep s) := by
  obtain ⟨-, eq⟩ | ⟨-, eq⟩ := deferSweep_cases s <;> rw [eq]
  · exact .report _ _ s
  · exact .sweep s _ rfl fun free => absurd cutting free

theorem State.Settles.endSweep (s : State) : s.Settles (endSweep s) := by
  obtain ⟨-, eq⟩ | ⟨-, cutting, eq⟩ | ⟨-, -, eq⟩ := endSweep_cases s <;> rw [eq]
  · exact .sweep s _ rfl fun _ => rfl
  · exact (State.Settles.sweep s { s.sweep with phase := .idle, waiting := s.sweep.waiting - 1 } rfl fun _ => rfl).trans
      (.deferSweep _ cutting)
  · exact .sweep s _ rfl fun _ => rfl

theorem State.Settles.sweepTo (phase : SweepPhase) (s : State) : s.Settles (sweepTo phase s) := by
  obtain ⟨-, eq⟩ | ⟨-, eq⟩ := sweepTo_cases phase s <;> rw [eq]
  · exact .endSweep s
  · exact .sweep s _ rfl fun _ => rfl

theorem State.Settles.settleSweep (s : State) : s.Settles (settleSweep s) := by
  obtain eq | eq := settleSweep_cases s <;> rw [eq]
  · exact .refl s
  · exact .sweepTo _ s

theorem State.Settles.expireSweepTimer (s : State) : s.Settles (expireSweepTimer s) := by
  have restarted := State.Settles.sweep s { s.sweep with elapsed := 0 } rfl fun _ => rfl
  unfold Machine.expireSweepTimer
  split
  · next cutting => exact restarted.trans (.deferSweep _ cutting)
  · split
    · exact .sweep s _ rfl fun _ => rfl
    · split
      · exact .sweep s _ rfl fun _ => rfl
      · exact restarted.trans (.report _ _ _)

theorem State.Settles.reports (h : s.Settles t) : t.uplink.reports = s.uplink.reports :=
  (congrArg (fun v : State => v.uplink.reports) h.frame :)

/-- A sweep that goes on while the part is awake keeps every law. -/
theorem State.Law.settles (h : s.Law) (k : s.Settles t) (awake : s.Awake) : t.Law := by
  obtain ⟨frame, uplink, number, deferred⟩ := k
  have uplinkLaw := uplink h.uplink
  rw [frame] at uplinkLaw number deferred ⊢
  exact h.ran rfl h.segments uplinkLaw h.zones h.shadow (fun _ => rfl) rfl deferred h.table h.cache h.report h.trace
    (number.trans_le h.number) (State.Awake.load awake)

end

end Sys2Proof.Machine
end

/-! # The occupancy machine keeps the laws of a zone (R60, R61, R78 to R93) -/

section
namespace Sys2Proof.Machine

/-- A zone state keeps the law of R61 under its record, and the ranges of Table 4-2. -/
structure ZoneState.Sound (v : ZoneState) (r : ZoneRecord) : Prop where
  level : v.LevelLaw r
  range : v.InRange

section
variable {v : ZoneState} {r : ZoneRecord}

theorem ZoneState.SameMarks.refl (v : ZoneState) : v.SameMarks v := ⟨rfl, rfl⟩

theorem ZoneState.idle_sound (r : ZoneRecord) : ZoneState.idle.Sound r := ⟨idle_level r, idle_inRange⟩

theorem ZoneRecord.InRange.one_le_fullHold (h : r.InRange) : 1 ≤ r.fullHold := by
  obtain ⟨-, -, -, ⟨one_le, -⟩, -⟩ := h
  unfold ZoneRecord.fullHold; omega

theorem ZoneRecord.InRange.fullHold_le (h : r.InRange) : r.fullHold ≤ 7200 := by
  obtain ⟨-, -, -, ⟨-, le⟩, -⟩ := h
  unfold ZoneRecord.fullHold; omega

theorem ZoneRecord.InRange.graceTime_le (h : r.InRange) : r.graceTime ≤ 300 := by
  obtain ⟨-, -, -, -, le, -⟩ := h; exact le

/-! ## The primitive changes -/

theorem ZoneState.Sound.restart (h : v.Sound r) (record : r.InRange) : (v.restart r).Sound r := by
  obtain ⟨level, ⟨-, onGrace, -⟩, -, rest⟩ := h
  exact ⟨level, ⟨fun _ => record.one_le_fullHold, onGrace, nofun⟩, record.fullHold_le, rest⟩

theorem ZoneState.Sound.occupy (h : v.Sound r) (record : r.InRange) : (v.occupy r).Sound r := by
  obtain ⟨⟨-, level⟩, -, -, rest⟩ := h
  exact ⟨⟨nofun, level⟩, ⟨fun _ => record.one_le_fullHold, nofun, nofun⟩, record.fullHold_le, rest⟩

/-- A level is written to a zone that is not VACANT, or is 0. -/
theorem ZoneState.Sound.withLevel (h : v.Sound r) (record : r.InRange) {l : Nat} (lit : v.occupancy = .vacant → l = 0) :
    (v.withLevel r l).Sound r := by
  obtain ⟨⟨vacant, -, preGrace, offset⟩, range⟩ := h
  refine ⟨⟨fun dark => ⟨?_, (vacant dark).2⟩, r.bound_lawful l record.minOn_le, preGrace, offset⟩, range⟩
  rw [lit dark]; rfl

theorem ZoneState.Sound.vacate (h : v.Sound r) : v.vacate.Sound r := by
  obtain ⟨⟨-, -, preGrace, -⟩, -, rest⟩ := h
  exact ⟨⟨fun _ => ⟨rfl, rfl⟩, fun lit => absurd rfl lit, preGrace, (by decide : (-300 : Int) ≤ 0), (by decide : (0 : Int) ≤ 300), rfl⟩,
    ⟨nofun, nofun, nofun⟩, rest⟩

theorem ZoneState.Sound.enterGrace (h : v.Sound r) (record : r.InRange) (timed : r.graceTime ≠ 0) :
    (v.enterGrace r).Sound r := by
  obtain ⟨⟨-, level, -, offset⟩, -, hold, -, rest⟩ := h
  exact ⟨⟨nofun, r.bound_lawful _ record.minOn_le, level, offset⟩, ⟨nofun, fun _ => Nat.one_le_iff_ne_zero.2 timed, nofun⟩,
    hold, record.graceTime_le, rest⟩

theorem ZoneState.Sound.occupyWithLevel (h : v.Sound r) (record : r.InRange) (l : Nat) :
    ((v.occupy r).withLevel r l).Sound r :=
  (h.occupy record).withLevel record nofun

/-- An offset of the range of R61 is written to a zone that is not VACANT. -/
theorem ZoneState.Sound.withOffset (h : v.Sound r) (lit : v.occupancy ≠ .vacant) {o : Int} (low : -300 ≤ o) (high : o ≤ 300)
    (step : o % 50 = 0) : ({ v with offset := o } : ZoneState).Sound r := by
  obtain ⟨⟨-, level, preGrace, -⟩, range⟩ := h
  exact ⟨⟨fun dark => absurd dark lit, level, preGrace, low, high, step⟩, range⟩

/-- A press of 50 either way keeps the offset in its range and in steps of 50 (R92). -/
theorem ZoneState.Sound.stepOffset (h : v.Sound r) (lit : v.occupancy ≠ .vacant) {change : Int}
    (step : change = 50 ∨ change = -50) : ({ v with offset := stepOffset v.offset change } : ZoneState).Sound r := by
  have ⟨⟨_, _, _, low, high, multiple⟩, _⟩ := h
  refine h.withOffset lit ?_ ?_ ?_ <;> (unfold Machine.stepOffset saturate; omega)

/-! ## Events -/

theorem ZoneState.Sound.onPresence (h : v.Sound r) (record : r.InRange) : (v.onPresence r).Sound r := by
  unfold ZoneState.onPresence
  split
  · exact h.occupyWithLevel record _
  · exact h.restart record
  · exact h.occupyWithLevel record _

theorem ZoneState.Sound.pressVacant (h : v.Sound r) (record : r.InRange) (c : FrameClass) : (v.pressVacant r c).Sound r := by
  unfold ZoneState.pressVacant
  split
  · exact h.occupyWithLevel record _
  · exact h.occupyWithLevel record _
  · exact h.occupyWithLevel record _
  · exact (h.occupyWithLevel record 0).withOffset nofun (by decide) (by decide) (by decide)
  · exact (h.occupyWithLevel record 0).withOffset nofun (by decide) (by decide) (by decide)
  · exact h

theorem ZoneState.Sound.pressOccupied (h : v.Sound r) (record : r.InRange) (lit : v.occupancy = .occupied) (c : FrameClass) :
    (v.pressOccupied r c).Sound r := by
  have written (l : Nat) : (v.withLevel r l).Sound r := h.withLevel record (by simp [lit])
  have notVacant : v.occupancy ≠ .vacant := by simp [lit]
  unfold ZoneState.pressOccupied
  split
  · exact written _
  · exact written _
  · exact written _
  · split
    · exact h
    · exact written _
  · exact h.stepOffset notVacant (.inl rfl)
  · exact h.stepOffset notVacant (.inr rfl)
  · exact h

theorem ZoneState.Sound.onPress (h : v.Sound r) (record : r.InRange) (c : FrameClass) : (v.onPress r c).Sound r := by
  unfold ZoneState.onPress
  split
  · exact h.pressVacant record c
  · next occupied => exact h.pressOccupied record occupied c
  · next grace =>
    have returned : (v.onPresence r).occupancy = .occupied := by rw [ZoneState.onPresence, grace]; rfl
    exact (h.onPresence record).pressOccupied record returned c

theorem ZoneState.Sound.onClass (h : v.Sound r) (record : r.InRange) (c : FrameClass) : (v.onClass r c).Sound r := by
  cases c with
  | presence => exact h.onPresence record
  | keyOn | keyOff | keyRaise | keyLower | setWarmer | setCooler => exact h.onPress record _
  | absence | temperature | pass | ignore => exact h

/-- A hold timer that does not run may stand at 0. -/
theorem ZoneState.Sound.holdZero (h : v.Sound r) (stopped : v.occupancy ≠ .occupied) :
    ({ v with hold := 0 } : ZoneState).Sound r := by
  obtain ⟨level, ⟨-, onGrace, due⟩, -, rest⟩ := h
  exact ⟨level, ⟨fun k => absurd k stopped, onGrace, fun e => .inr ((due e).resolve_left fun k => stopped k.1)⟩, Nat.zero_le _,
    rest⟩

/-- A grace timer that does not run may stand at 0. -/
theorem ZoneState.Sound.graceZero (h : v.Sound r) (stopped : v.occupancy ≠ .grace) :
    ({ v with grace := 0 } : ZoneState).Sound r := by
  obtain ⟨level, ⟨onHold, -, due⟩, hold, -, rest⟩ := h
  exact ⟨level, ⟨onHold, fun k => absurd k stopped, fun e => .inl ((due e).resolve_right fun k => stopped k.1)⟩, hold,
    Nat.zero_le _, rest⟩

/-- A hold expiry restarts the hold, or leaves a zone whose hold no longer runs (Table 5-2). -/
theorem ZoneState.Sound.onHoldExpiry (h : v.Sound r) (record : r.InRange) (fresh : Bool) : (v.onHoldExpiry r fresh).Sound r := by
  unfold ZoneState.onHoldExpiry
  split
  · exact h.restart record
  · split
    · exact h.vacate.holdZero nofun
    · next timed => exact (h.enterGrace record timed).holdZero nofun

theorem ZoneState.Sound.onGraceExpiry (h : v.Sound r) : v.onGraceExpiry.Sound r := h.vacate.graceZero nofun

theorem ZoneState.Sound.setLevel (h : v.Sound r) (record : r.InRange) (l : Nat) : (v.setLevel r l).Sound r := by
  unfold ZoneState.setLevel
  split
  · split
    · exact h.withLevel record fun _ => rfl
    · exact h.occupyWithLevel record _
  · next lit => exact h.withLevel record (by simp [lit])
  · exact h.occupyWithLevel record _

theorem ZoneState.Sound.forceOccupied (h : v.Sound r) (record : r.InRange) : (v.forceOccupied r).Sound r := by
  unfold ZoneState.forceOccupied
  split
  · exact h.occupyWithLevel record _
  · exact h.restart record
  · exact h.occupyWithLevel record _

theorem ZoneState.Sound.forceVacant (h : v.Sound r) : v.forceVacant.Sound r := by
  unfold ZoneState.forceVacant
  split
  · exact h
  · exact h.vacate
  · exact h.vacate

/-- A second keeps a timer that runs at 1 or more; one at 1 makes its expiry due (log entry 13). -/
theorem ZoneState.Sound.tick (h : v.Sound r) : v.tick.Sound r := by
  have ⟨level, ⟨onHold, onGrace, due⟩, hold, grace, rest⟩ := h
  unfold ZoneState.tick
  split
  · exact h
  · split
    · exact h
    · next occupied =>
      split
      · next last => exact ⟨level, ⟨onHold, onGrace, fun _ => .inl ⟨occupied, last.antisymm (onHold occupied)⟩⟩, hold, grace, rest⟩
      · refine ⟨level, ⟨fun _ => (by omega : 1 ≤ v.hold - 1), onGrace, fun e => ?_⟩, (Nat.sub_le v.hold 1).trans hold, grace, rest⟩
        obtain ⟨-, last⟩ | ⟨other, -⟩ := due e
        · omega
        · simp [occupied] at other
    · next inGrace =>
      split
      · next last => exact ⟨level, ⟨onHold, onGrace, fun _ => .inr ⟨inGrace, last.antisymm (onGrace inGrace)⟩⟩, hold, grace, rest⟩
      · refine ⟨level, ⟨onHold, fun _ => (by omega : 1 ≤ v.grace - 1), fun e => ?_⟩, hold, (Nat.sub_le v.grace 1).trans grace, rest⟩
        obtain ⟨other, -⟩ | ⟨-, last⟩ := due e
        · simp [inGrace] at other
        · omega

theorem ZoneState.Sound.litState (record : r.InRange) : r.litState.Sound r :=
  ((ZoneState.idle_sound r).occupy record).withLevel record nofun

/-- A carried zone keeps its state under the new record, its levels raised (R139, R156). -/
theorem ZoneState.Sound.carried {r' : ZoneRecord} (h : v.Sound r') (record : r.InRange) : (v.carried r).Sound r := by
  obtain ⟨⟨vacant, -, -, offset⟩, range⟩ := h
  refine ⟨⟨fun dark => ?_, r.bound_lawful _ record.minOn_le, r.bound_lawful _ record.minOn_le, offset⟩, range⟩
  obtain ⟨unlit, centred⟩ := vacant dark
  exact ⟨by rw [ZoneState.carried, unlit]; rfl, centred⟩

/-! ## Readings (R106 to R110) -/

/-- Readings of weights from 1, each between `a` and `b`. -/
def ReadingsBetween (a b : Int) (rs : List (Nat × Int)) : Prop := ∀ x ∈ rs, 1 ≤ x.1 ∧ a ≤ x.2 ∧ x.2 ≤ b

theorem ReadingsBetween.weightedSum_bounds {a b : Int} {rs : List (Nat × Int)} (h : ReadingsBetween a b rs) :
    a * weightTotal rs ≤ weightedSum rs ∧ weightedSum rs ≤ b * weightTotal rs := by
  induction rs with
  | nil => simp [weightTotal, weightedSum]
  | cons x rs ih =>
    obtain ⟨low, high⟩ := ih fun y hy => h y (List.mem_cons_of_mem _ hy)
    obtain ⟨-, above, below⟩ := h x List.mem_cons_self
    have weight : (0 : Int) ≤ x.1 := Int.natCast_nonneg _
    have := mul_le_mul_of_nonneg_left above weight
    have := mul_le_mul_of_nonneg_left below weight
    simp only [weightTotal, weightedSum, List.map_cons, List.sum_cons, Nat.cast_add] at low high ⊢
    constructor <;> nlinarith

/-- The rounded weighted mean lies between the bounds of its readings (R107). -/
theorem ReadingsBetween.weightedMean_bounds {a b : Int} {rs : List (Nat × Int)} (h : ReadingsBetween a b rs)
    (some : weightTotal rs ≠ 0) : a ≤ weightedMean rs ∧ weightedMean rs ≤ b := by
  obtain ⟨low, high⟩ := h.weightedSum_bounds
  have pos : (0 : Int) < weightTotal rs := by omega
  unfold weightedMean
  constructor
  · rw [Int.le_ediv_iff_mul_le (by omega)]; nlinarith
  · rw [← Int.lt_add_one_iff, Int.ediv_lt_iff_lt_mul (by omega)]; nlinarith

theorem weightTotal_eq_zero_iff {a b : Int} {rs : List (Nat × Int)} (h : ReadingsBetween a b rs) :
    weightTotal rs = 0 ↔ rs = [] := by
  cases rs with
  | nil => simp [weightTotal]
  | cons x rs =>
    obtain ⟨pos, -⟩ := h x List.mem_cons_self
    simp [weightTotal]; omega

theorem foldl_max_le {b : Int} (rs : List (Nat × Int)) (m : Int) (start : m ≤ b) (h : ∀ x ∈ rs, x.2 ≤ b) :
    rs.foldl (fun m x => max m x.2) m ≤ b := by
  induction rs generalizing m with
  | nil => exact start
  | cons x rs ih => exact ih _ (max_le start (h x List.mem_cons_self)) fun y hy => h y (List.mem_cons_of_mem _ hy)

theorem le_foldl_min {a : Int} (rs : List (Nat × Int)) (m : Int) (start : a ≤ m) (h : ∀ x ∈ rs, a ≤ x.2) :
    a ≤ rs.foldl (fun m x => min m x.2) m := by
  induction rs generalizing m with
  | nil => exact start
  | cons x rs ih => exact ih _ (le_min start (h x List.mem_cons_self)) fun y hy => h y (List.mem_cons_of_mem _ hy)

theorem ReadingsBetween.readingSpread_le {a b : Int} {rs : List (Nat × Int)} (h : ReadingsBetween a b rs) :
    readingSpread rs ≤ (b - a).toNat := by
  cases rs with
  | nil => exact Nat.zero_le _
  | cons x rs =>
    obtain ⟨-, above, below⟩ := h x List.mem_cons_self
    have := foldl_max_le rs x.2 below fun y hy => (h y (List.mem_cons_of_mem _ hy)).2.2
    have := le_foldl_min rs x.2 above fun y hy => (h y (List.mem_cons_of_mem _ hy)).2.1
    rw [readingSpread]
    omega

/-- A temperature computation over at most 32 plausible readings keeps the ranges of Table 4-2. -/
theorem ZoneState.Sound.withReadings (h : v.Sound r) {rs : List (Nat × Int)} (plausible : ReadingsBetween 0 5000 rs)
    (few : rs.length ≤ 32) : (v.withReadings rs).Sound r := by
  obtain ⟨level, timer, hold, grace, temperature, absent, count, spread, damper⟩ := h
  unfold ZoneState.withReadings
  split
  · split
    · exact ⟨level, timer, hold, grace, nofun, by simp, Nat.zero_le _, Nat.zero_le _, damper⟩
    · next known =>
      exact ⟨level, timer, hold, grace, temperature, by rw [known] at absent; simpa using absent, Nat.zero_le _, Nat.zero_le _,
        damper⟩
    · next known =>
      exact ⟨level, timer, hold, grace, temperature, by rw [known] at absent; simpa using absent, Nat.zero_le _, Nat.zero_le _,
        damper⟩
  · next some =>
    refine ⟨level, timer, hold, grace, fun t ht => ?_, by simp, few, plausible.readingSpread_le, damper⟩
    obtain rfl := Option.some.inj ht
    exact plausible.weightedMean_bounds some

/-! ## What the machine leaves of the marks -/

@[simp] theorem ZoneState.withReadings_frozen (rs : List (Nat × Int)) : (v.withReadings rs).frozen = v.frozen := by
  unfold withReadings; split
  · split <;> rfl
  · rfl

@[simp] theorem ZoneState.withReadings_reportPending (rs : List (Nat × Int)) :
    (v.withReadings rs).reportPending = v.reportPending := by
  unfold withReadings; split
  · split <;> rfl
  · rfl

theorem ZoneState.sameMarks_onPresence (v : ZoneState) (r : ZoneRecord) : (v.onPresence r).SameMarks v := by
  unfold ZoneState.onPresence; split <;> exact ⟨rfl, rfl⟩

theorem ZoneState.sameMarks_pressOccupied (v : ZoneState) (r : ZoneRecord) (c : FrameClass) :
    (v.pressOccupied r c).SameMarks v := by
  cases c with
  | keyLower =>
    rw [ZoneState.pressOccupied]
    split <;> exact ⟨rfl, rfl⟩
  | _ => exact ⟨rfl, rfl⟩

theorem ZoneState.sameMarks_onPress (v : ZoneState) (r : ZoneRecord) (c : FrameClass) : (v.onPress r c).SameMarks v := by
  unfold ZoneState.onPress
  split
  · cases c <;> exact ⟨rfl, rfl⟩
  · exact v.sameMarks_pressOccupied r c
  · obtain ⟨frozen, waits⟩ := (v.onPresence r).sameMarks_pressOccupied r c
    obtain ⟨frozen', waits'⟩ := v.sameMarks_onPresence r
    exact ⟨frozen.trans frozen', waits.trans waits'⟩

theorem ZoneState.sameMarks_onClass (v : ZoneState) (r : ZoneRecord) (c : FrameClass) : (v.onClass r c).SameMarks v := by
  cases c with
  | presence => exact v.sameMarks_onPresence r
  | keyOn | keyOff | keyRaise | keyLower | setWarmer | setCooler => exact v.sameMarks_onPress r _
  | absence | temperature | pass | ignore => exact .refl v

theorem ZoneState.sameMarks_onHoldExpiry (v : ZoneState) (r : ZoneRecord) (fresh : Bool) :
    (v.onHoldExpiry r fresh).SameMarks v := by
  unfold ZoneState.onHoldExpiry
  split
  · exact ⟨rfl, rfl⟩
  · split <;> exact ⟨rfl, rfl⟩

theorem ZoneState.sameMarks_setLevel (v : ZoneState) (r : ZoneRecord) (l : Nat) : (v.setLevel r l).SameMarks v := by
  unfold ZoneState.setLevel
  split
  · split <;> exact ⟨rfl, rfl⟩
  · exact ⟨rfl, rfl⟩
  · exact ⟨rfl, rfl⟩

theorem ZoneState.sameMarks_forceOccupied (v : ZoneState) (r : ZoneRecord) : (v.forceOccupied r).SameMarks v := by
  unfold ZoneState.forceOccupied; split <;> exact ⟨rfl, rfl⟩

theorem ZoneState.sameMarks_forceVacant (v : ZoneState) : v.forceVacant.SameMarks v := by
  unfold ZoneState.forceVacant; split <;> exact ⟨rfl, rfl⟩

theorem ZoneState.sameMarks_tick (v : ZoneState) : v.tick.SameMarks v := by
  unfold ZoneState.tick
  split
  · exact ⟨rfl, rfl⟩
  · split
    · exact ⟨rfl, rfl⟩
    · split <;> exact ⟨rfl, rfl⟩
    · split <;> exact ⟨rfl, rfl⟩

theorem ZoneState.tick_idle : ZoneState.idle.tick = .idle := rfl

end

end Sys2Proof.Machine
end

/-! # Included readings and computed states keep their ranges (R106, R134, R150 to R152) -/

section
namespace Sys2Proof.Machine

/-! ## The checks of a valid bank -/

/-- The first eight checks, each passed. -/
theorem firstFailure_eq_none_iff (b : Bank) :
    firstFailure b = none ↔
      checkOrder 0 b.windows = none ∧ checkZoneMissing b = none ∧ checkZoneZero b = none ∧ checkLevels b = none
        ∧ checkActuators b = none ∧ checkTemperatures b = none ∧ checkSensorTotal 0 0 b.windows = none
        ∧ checkPinAttribute b = none := by
  simp only [firstFailure, Option.orElse_eq_none, Option.map_eq_none_iff]

/-- A window holds as many addresses as its size says. -/
@[simp] theorem Window.length_addresses (w : Window) : w.addresses.length = w.size := by
  simp [Window.addresses, Window.size]

theorem length_membersOfRole (windows : List Window) (z : Nat) (role : Role) :
    (membersOfRole windows z role).length = addressesIn (fun w => w.joins z && w.role == role) windows := by
  simp [membersOfRole, addressesIn, List.length_flatMap]

/-- A search among the zone numbers that finds nothing. -/
theorem find_zoneNumbers_eq_none {p : Nat → Bool} :
    zoneNumbers.find? p = none ↔ ∀ z, 1 ≤ z → z ≤ 255 → p z = false := by
  simp [List.find?_eq_none]

theorem Bank.Valid.few_temperatures {b : Bank} (valid : b.Valid) {z : Nat} (low : 1 ≤ z) (high : z ≤ 255) :
    (membersOfRole b.windows z .temperatureSensor).length ≤ 32 := by
  obtain ⟨-, passes⟩ := valid
  obtain ⟨-, -, -, -, -, few, -⟩ := (firstFailure_eq_none_iff b).1 passes
  rw [length_membersOfRole]
  simpa using find_zoneNumbers_eq_none.1 few z low high

/-! ## Readings -/

section
variable {s : State}

/-- An included reading is plausible (R101, R106). -/
theorem State.Law.includedReading_plausible (h : s.Law) {a : Nat} {t : Int} (included : s.includedReading a = some t) :
    0 ≤ t ∧ t ≤ 5000 := by
  unfold State.includedReading at included
  split at included
  · next e found =>
    split at included
    · next x last =>
      split at included
      · next k =>
        obtain ⟨-, sound, -⟩ := k
        obtain ⟨-, marked, -⟩ := h.cache e (List.mem_of_find?_eq_some found)
        rw [sound, last] at marked
        obtain rfl := Option.some.inj included
        simpa [Report.implausible, plausible] using marked.symm
      · cases included
    · cases included
  · cases included

theorem State.Law.includedReadings_between (h : s.Law) {windows : List Window} (inRange : ∀ w ∈ windows, w.InRange) (z : Nat) :
    ReadingsBetween 0 5000 (s.includedReadings windows z) := by
  intro x hx
  obtain ⟨⟨w, a⟩, member, hit⟩ := List.mem_filterMap.1 hx
  obtain ⟨t, included, rfl⟩ := Option.map_eq_some_iff.1 hit
  obtain ⟨listed, -⟩ := mem_membersOfRole.1 member
  have ⟨_, _, _, _, _, _, _, _, weight, _⟩ := inRange w listed
  exact ⟨weight, h.includedReading_plausible included⟩

theorem length_includedReadings_le (s : State) (windows : List Window) (z : Nat) :
    (s.includedReadings windows z).length ≤ (membersOfRole windows z .temperatureSensor).length :=
  List.length_filterMap_le _ _

/-- A temperature computation over a valid bank keeps a zone state's laws. -/
theorem State.Law.sound_withReadings (h : s.Law) {b : Bank} (valid : b.Valid) {z : Nat} (low : 1 ≤ z) (high : z ≤ 255)
    {v : ZoneState} {r : ZoneRecord} (sound : v.Sound r) : (v.withReadings (s.includedReadings b.windows z)).Sound r :=
  sound.withReadings (h.includedReadings_between (fun _ hw => valid.window_inRange hw) z)
    ((length_includedReadings_le s b.windows z).trans (valid.few_temperatures low high))

theorem State.Law.zone_sound (h : s.Law) (z : Nat) : (s.zone z).Sound (s.record z) := ⟨(h.zones z).level, (h.zones z).range⟩

theorem State.Law.shadow_sound (h : s.Law) (z : Nat) : (s.shadowZone z).Sound (s.stagedRecord z) :=
  have ⟨shaded, _⟩ := h.shadow
  ⟨(shaded z).1, (shaded z).2⟩

end

/-! ## The computed state -/

theorem foldl_max_ge (f : Nat → Nat) (zs : List Nat) (m : Nat) : m ≤ zs.foldl (fun m y => max m (f y)) m := by
  induction zs generalizing m with
  | nil => exact le_rfl
  | cons y zs ih => exact (le_max_left m (f y)).trans (ih _)

theorem foldl_max_ge_of_mem (f : Nat → Nat) {zs : List Nat} {y : Nat} (hy : y ∈ zs) (m : Nat) :
    f y ≤ zs.foldl (fun m y => max m (f y)) m := by
  induction zs generalizing m with
  | nil => cases hy
  | cons x zs ih =>
    obtain rfl | later := List.mem_cons.1 hy
    · exact (le_max_right m (f y)).trans (foldl_max_ge f zs _)
    · exact ih later _

theorem le_largest (f : Nat → Nat) {zs : List Nat} {y : Nat} (hy : y ∈ zs) : f y ≤ largest f zs :=
  foldl_max_ge_of_mem f hy 0

/-- A computed state keeps the laws under its new record, when the contributors and the dominant one keep theirs. -/
theorem inheritFrom_sound {r : ZoneRecord} (record : r.InRange) {zones : Nat → ZoneState} (contributing : List Nat)
    (timed : ∀ y, (zones y).TimerLaw) {dom : ZoneState} {rd : ZoneRecord} (sound : dom.Sound rd) :
    (inheritFrom r zones contributing dom).Sound r := by
  obtain ⟨⟨-, -, -, offset⟩, -, -, -, -, -, -, -, damper⟩ := sound
  simp only [inheritFrom]
  split
  · next occupied =>
    obtain ⟨y, hy⟩ := List.exists_mem_of_ne_nil _ occupied
    obtain ⟨runs, -⟩ := timed y
    have long : 1 ≤ (zones y).hold := runs (by simpa using (List.mem_filter.1 hy).2)
    exact ⟨⟨nofun, r.bound_lawful _ record.minOn_le, fun k => absurd rfl k, offset⟩,
      ⟨fun _ => le_min (long.trans (le_largest (fun y => (zones y).hold) hy)) record.one_le_fullHold, nofun, nofun⟩,
      (min_le_right _ _).trans record.fullHold_le, Nat.zero_le _, nofun, by simp [ZoneState.idle], Nat.zero_le _, Nat.zero_le _,
      damper⟩
  · split
    · next k =>
      obtain ⟨grace, graceTime⟩ := k
      obtain ⟨y, hy⟩ := List.exists_mem_of_ne_nil _ grace
      obtain ⟨-, runs, -⟩ := timed y
      have long : 1 ≤ (zones y).grace := runs (by simpa using (List.mem_filter.1 hy).2)
      exact ⟨⟨nofun, r.bound_lawful _ record.minOn_le, r.bound_lawful _ record.minOn_le, offset⟩,
        ⟨nofun, fun _ => le_min (long.trans (le_largest (fun y => (zones y).grace) hy)) (Nat.one_le_iff_ne_zero.2 graceTime),
          nofun⟩,
        Nat.zero_le _, (min_le_right _ _).trans record.graceTime_le, nofun, by simp [ZoneState.idle], Nat.zero_le _, Nat.zero_le _,
        damper⟩
    · obtain ⟨level, timer, hold, grace, temperature, status, count, spread, -⟩ := ZoneState.idle_sound r
      exact ⟨level, timer, hold, grace, temperature, status, count, spread, damper⟩

section
variable {s : State}

theorem State.Law.timed (h : s.Law) (y : Nat) : (s.zone y).TimerLaw := by
  obtain ⟨timer, -⟩ := (h.zones y).range
  exact timer

theorem State.Law.computedState_sound (h : s.Law) (valid : s.staged.Valid) {z : Nat} (low : 1 ≤ z) (high : z ≤ 255) :
    (s.computedState z).Sound (s.stagedRecord z) := by
  refine h.sound_withReadings valid low high ?_
  split
  · exact ZoneState.idle_sound _
  · exact inheritFrom_sound (h.stagedRecord_inRange z) _ h.timed (h.zone_sound _)

theorem State.Law.seed_sound (h : s.Law) (valid : s.staged.Valid) (z : Nat) : (s.seed z).Sound (s.stagedRecord z) := by
  unfold State.seed
  split
  · next present =>
    obtain ⟨low, high⟩ := Bank.isZone_of_present present
    split
    · obtain ⟨level, ⟨onHold, onGrace, -⟩, rest⟩ := (h.zone_sound z).carried (h.stagedRecord_inRange z)
      exact ⟨level, ⟨onHold, onGrace, nofun⟩, rest⟩
    · exact h.computedState_sound valid low high
  · exact ZoneState.idle_sound _

end

end Sys2Proof.Machine
end

/-! # The laws across events on the segments, the timers and the uplink -/

section
namespace Sys2Proof.Machine

/-- The outcome is a next state with property `P`. -/
def LeadsTo (o : Host.Outcome State Fault Refusal) (P : State → Prop) : Prop := ∃ t, o = .next t ∧ P t

theorem leadsTo_next {P : State → Prop} {t : State} (h : P t) : LeadsTo (.next t) P := ⟨t, rfl, h⟩

/-- A command whose event is not due changes nothing (log entry 1). -/
theorem leadsTo_ite {P : State → Prop} {c : Prop} [Decidable c] {t s : State} (due : c → P t) (same : P s) :
    LeadsTo (.next (if c then t else s)) P := by
  refine leadsTo_next ?_
  split
  · next k => exact due k
  · exact same

section
variable {s : State}

/-! ## When the part is awake -/

theorem State.awake_or_quiet (s : State) : s.Awake ∨ s.resetLow = true ∨ s.loading = true := by
  unfold State.Awake
  cases s.resetLow <;> cases s.loading <;> simp

/-- Nothing is in translation while the part is not awake. -/
theorem State.Law.awake_of_current (h : s.Law) {x : Translation} (busy : s.engine.current = some x) : s.Awake := by
  obtain awake | quiet := s.awake_or_quiet
  · exact awake
  · obtain ⟨-, -, -, -, -, -, -, -, current, -⟩ := h.load quiet
    rw [busy] at current; cases current

/-- No sweep runs while the part is not awake. -/
theorem State.Law.awake_of_phase (h : s.Law) (busy : s.sweep.phase ≠ .idle) : s.Awake := by
  obtain awake | quiet := s.awake_or_quiet
  · exact awake
  · obtain ⟨-, -, -, -, -, -, -, -, -, phase, -⟩ := h.load quiet
    exact absurd phase busy

/-- The staging state is EMPTY while the part is not awake. -/
theorem State.Law.awake_of_staging (h : s.Law) (busy : s.staging ≠ .empty) : s.Awake := by
  obtain awake | quiet := s.awake_or_quiet
  · exact awake
  · obtain ⟨-, -, -, -, staging, -⟩ := h.load quiet
    exact absurd staging busy

/-! ## Segments -/

theorem Segment.Lawful.withReceiving {g : Segment} (h : g.Lawful) (b : Bool) :
    ({ g with receiving := b } : Segment).Lawful := ⟨h.queue, h.command, h.burst, h.count⟩

theorem Segment.Lawful.withLine {g : Segment} (h : g.Lawful) (l : LineState) :
    ({ g with line := l } : Segment).Lawful := ⟨h.queue, h.command, h.burst, h.count⟩

theorem Segment.Lawful.withControl {g : Segment} (h : g.Lawful) (c : Option ControlFrame) (x : HoldState)
    (b : Option (List Byte)) : ({ g with control := c, hold := x, transmitting := b } : Segment).Lawful :=
  ⟨h.queue, h.command, h.burst, h.count⟩

theorem Segment.Lawful.holdOff {g : Segment} (h : g.Lawful) : g.holdOff.Lawful := h.withControl _ _ _
theorem Segment.Lawful.letGo {g : Segment} (h : g.Lawful) : g.letGo.Lawful := h.withControl _ _ _

theorem Segment.Lawful.withIngress {g : Segment} (h : g.Lawful) {q : List IngressRecord} (short : q.length ≤ 128) :
    ({ g with ingress := q } : Segment).Lawful := by
  obtain ⟨⟨-, queues⟩, command, burst, count⟩ := h
  exact ⟨⟨short, queues⟩, command, burst, count⟩

theorem Segment.Lawful.afterAppend {g : Segment} (h : g.Lawful) : g.afterAppend.Lawful := by
  unfold Segment.afterAppend; split
  · exact h.holdOff
  · exact h

theorem Segment.Lawful.afterTake {g : Segment} (h : g.Lawful) (forced : Bool) : (g.afterTake forced).Lawful := by
  unfold Segment.afterTake; split
  · exact h.letGo
  · exact h

theorem Segment.Lawful.matchForced {g : Segment} (h : g.Lawful) (forced : Bool) : (g.matchForced forced).Lawful := by
  unfold Segment.matchForced; split
  · exact h.holdOff
  · exact h.letGo

theorem Segment.afterReset_lawful : Segment.afterReset.Lawful :=
  ⟨by simp [Segment.QueueLaw, Segment.afterReset], by simp [Segment.afterReset], Nat.zero_le _,
    ⟨Nat.zero_le _, Nat.zero_le _, Nat.zero_le _⟩⟩

/-- The output queues of a segment, which a port never touches. -/
def Segment.SameOutput (g g' : Segment) : Prop := g.commands = g'.commands ∧ g.stations = g'.stations

theorem Segment.SameOutput.quiet {g g' : Segment} (h : g.SameOutput g') (commands : g'.commands = []) (stations : g'.stations = []) :
    g.commands = [] ∧ g.stations = [] :=
  ⟨h.1.trans commands, h.2.trans stations⟩

theorem Segment.afterAppend_sameOutput (g : Segment) : g.afterAppend.SameOutput g := by
  unfold Segment.afterAppend; split <;> exact ⟨rfl, rfl⟩

theorem Segment.afterTake_sameOutput (g : Segment) (forced : Bool) : (g.afterTake forced).SameOutput g := by
  unfold Segment.afterTake; split <;> exact ⟨rfl, rfl⟩

/-- A write of a segment that leaves its output queues. -/
theorem State.Law.setPort (h : s.Law) (n : Nat) {g : Segment} (lawful : g.Lawful) (same : g.SameOutput (s.segment n)) :
    (s.setSegment n g).Law :=
  h.setSegment n lawful same.quiet

theorem execReceptionStart_law (h : s.Law) (n : Nat) : LeadsTo (execReceptionStart n s) State.Law :=
  leadsTo_ite (fun _ => h.setPort n ((h.segment n).withReceiving true) ⟨rfl, rfl⟩) h

theorem State.Law.offerRecord (h : s.Law) (n : Nat) (r : IngressRecord) : (offerRecord n r s).Law := by
  have lawful := h.segment n
  unfold Machine.offerRecord
  dsimp only
  split
  · next room =>
    exact h.setPort n (lawful.withIngress (by simpa using room)).afterAppend (Segment.afterAppend_sameOutput _)
  · obtain ⟨queue, command, burst, received, malformed, overflow⟩ := lawful
    exact (h.setPort n (g := { s.segment n with overflow := advanceCount (s.segment n).overflow })
      ⟨queue, command, burst, received, malformed, advanceCount_le overflow⟩ ⟨rfl, rfl⟩).reported _ _

theorem State.Law.arrive (h : s.Law) (n : Nat) (f : FieldFrame) : (arrive n f s).Law := by
  have ⟨queue, command, burst, received, malformed, overflow⟩ := h.segment n
  have counted := h.setPort n
    (g := { s.segment n with
      received := advanceCount (s.segment n).received, lastArrival := some s.deviceTime, line := .up })
    ⟨queue, command, burst, advanceCount_le received, malformed, overflow⟩ ⟨rfl, rfl⟩
  unfold Machine.arrive
  dsimp only
  split
  · exact (counted.reported _ _).offerRecord n _
  · exact counted.offerRecord n _

theorem State.Law.discardMalformed (h : s.Law) (n : Nat) : (discardMalformed n s).Law := by
  have ⟨queue, command, burst, received, malformed, overflow⟩ := h.segment n
  exact (h.setPort n (g := { s.segment n with malformed := advanceCount (s.segment n).malformed })
    ⟨queue, command, burst, received, advanceCount_le malformed, overflow⟩ ⟨rfl, rfl⟩).reported _ _

theorem execReceptionCompletion_law (h : s.Law) (n : Nat) (bytes : List Byte) :
    LeadsTo (execReceptionCompletion n bytes s) State.Law := by
  have ended := h.setPort n ((h.segment n).withReceiving false) ⟨rfl, rfl⟩
  refine leadsTo_ite (fun _ => ?_) h
  dsimp only
  split
  · exact ended.arrive n _
  · exact ended.discardMalformed n

theorem State.Law.fallSilent (h : s.Law) (n : Nat) : (fallSilent n s).Law :=
  (h.setPort n ((h.segment n).withLine .down) ⟨rfl, rfl⟩).reported _ _

theorem execSegmentSilenceExpiry_law (h : s.Law) (n : Nat) : LeadsTo (execSegmentSilenceExpiry n s) State.Law :=
  leadsTo_ite (fun _ => h.fallSilent n) h

/-! ## The arbiter -/

theorem Segment.Lawful.startCommand {g : Segment} (h : g.Lawful) {c : CommandEntry} {rest : List CommandEntry}
    (head : g.commands = c :: rest) (burst : g.stations ≠ [] → g.burst < 32) : (g.startCommand c rest).Lawful := by
  obtain ⟨⟨ingress, commands, stations, keys⟩, command, -, count⟩ := h
  rw [head] at commands keys command
  refine ⟨⟨ingress, (Nat.le_succ _).trans commands, stations, (List.nodup_cons.1 keys).2⟩,
    fun x hx => command x (List.mem_cons_of_mem _ hx), ?_, count⟩
  show (if g.stations.isEmpty then 0 else g.burst + 1) ≤ 32
  split
  · exact Nat.zero_le _
  · next waits => exact burst (by simpa using waits)

theorem Segment.Lawful.startStation {g : Segment} (h : g.Lawful) {f : FieldFrame} {rest : List FieldFrame}
    (head : g.stations = f :: rest) : (g.startStation f rest).Lawful := by
  obtain ⟨⟨ingress, commands, stations, keys⟩, command, -, count⟩ := h
  rw [head] at stations
  exact ⟨⟨ingress, commands, (Nat.le_succ _).trans stations, keys⟩, command, Nat.zero_le _, count⟩

/-- The arbiter advances the burst count only below the allowance, which is at most 32 (R120, R121). -/
theorem Segment.Lawful.startNext {g : Segment} (h : g.Lawful) {allowance : Nat} (most : allowance ≤ 32) :
    (g.startNext allowance).Lawful := by
  unfold Segment.startNext
  split
  · exact h.withControl _ _ _
  · split
    · exact h
    · next commands stations => exact h.startCommand commands fun k => absurd stations k
    · next stations => exact h.startStation stations
    · next commands stations =>
      split
      · exact h.startStation stations
      · next below => exact h.startCommand commands fun _ => by omega

theorem Segment.startNext_quiet {g : Segment} (allowance : Nat) (commands : g.commands = []) (stations : g.stations = []) :
    (g.startNext allowance).commands = [] ∧ (g.startNext allowance).stations = [] := by
  unfold Segment.startNext
  split
  · exact ⟨commands, stations⟩
  · rw [commands, stations]; exact ⟨commands, stations⟩

theorem Settings.InRange.burstAllowance_le {c : Settings} (h : c.InRange) : c.burstAllowance ≤ 32 := by
  obtain ⟨-, -, -, -, ⟨-, le⟩, -⟩ := h; exact le

theorem State.Law.settings_inRange (h : s.Law) : s.settings.InRange := by
  obtain ⟨inRange, -⟩ := h.settings; exact inRange

theorem execTransmissionStart_law (h : s.Law) (n : Nat) : LeadsTo (execTransmissionStart n s) State.Law :=
  leadsTo_ite
    (fun _ => h.setSegment n ((h.segment n).startNext h.settings_inRange.burstAllowance_le) (Segment.startNext_quiet _)) h

theorem execTransmitCompletion_law (h : s.Law) (n : Nat) : LeadsTo (execTransmitCompletion n s) State.Law :=
  leadsTo_ite (fun _ => h.setPort n ((h.segment n).withControl _ _ none) ⟨rfl, rfl⟩) h

/-! ## The take -/

/-- A write of the engine while the part is awake. -/
theorem State.Law.setEngine (h : s.Law) {e : Engine} (awake : s.Awake) (gate : e.gateOpen = s.engine.gateOpen)
    (trace : e.traceCount ≤ 254) : ({ s with engine := e } : State).Law :=
  h.ran rfl h.segments h.uplink h.zones h.shadow (fun _ => rfl) gate (fun _ => rfl) h.table h.cache h.report trace h.number
    (State.Awake.load awake)

theorem execTake_law (h : s.Law) : LeadsTo (execTake s) State.Law := by
  refine leadsTo_ite (fun due => ?_) h
  have awake : s.Awake := by
    simp only [State.takeDue, State.running, Bool.and_eq_true, Bool.not_eq_true'] at due
    obtain ⟨⟨⟨⟨running, loaded⟩, -⟩, -⟩, -⟩ := due
    exact ⟨running, loaded⟩
  split
  · next n _ =>
    split
    · next r rest queue =>
      have ⟨⟨short, _⟩, _, _, _⟩ := h.segment n
      rw [queue] at short
      have taken := h.setPort n (((h.segment n).withIngress ((Nat.le_succ _).trans short)).afterTake (s.forcedHold n))
        (Segment.afterTake_sameOutput _ _)
      exact taken.setEngine awake rfl h.trace
    · exact h
  · exact h

/-! ## Device time -/

theorem mapNumbered_replicate {α : Type} {n : Nat} {d : α} {f : Nat → α → α} (fixed : ∀ i, f i d = d) :
    mapNumbered (Vector.replicate n d) f = Vector.replicate n d := by
  apply Vector.ext
  intro i hi
  simp [mapNumbered, fixed]

theorem zone_tick (s : State) (z : Nat) : (advance s).zone z = (s.zone z).tick :=
  nth_mapNumbered_of_fixed s.zones _ .idle z fun _ => ZoneState.tick_idle

theorem State.Law.advance (h : s.Law) : (advance s).Law :=
  h.ran rfl h.segments h.uplink
    (fun z => by
      obtain ⟨level, range, idle⟩ := h.zones z
      obtain ⟨level', range'⟩ := ZoneState.Sound.tick ⟨level, range⟩
      rw [zone_tick]
      exact ⟨level', range', fun absent => by rw [idle absent]; rfl⟩)
    (by
      obtain ⟨shaded, dark⟩ := h.shadow
      refine ⟨fun z => ?_, fun still => (if_neg still).trans (dark still)⟩
      by_cases rehearses : s.staging = .rehearsing
      · have eq : (Machine.advance s).shadowZone z = (s.shadowZone z).tick := by
          simp only [State.shadowZone, Machine.advance, if_pos rehearses]
          exact nth_mapNumbered_of_fixed s.shadow _ .idle z fun _ => ZoneState.tick_idle
        obtain ⟨level', range'⟩ := (h.shadow_sound z).tick
        rw [eq]; exact ⟨level', range'⟩
      · have eq : (Machine.advance s).shadowZone z = s.shadowZone z := by
          simp only [State.shadowZone, Machine.advance, if_neg rehearses]
        rw [eq]; exact shaded z)
    (fun z => by rw [zone_tick]; exact (s.zone z).sameMarks_tick.frozen)
    rfl (fun _ => rfl) h.table h.cache
    (fun z => by rw [zone_tick, (s.zone z).sameMarks_tick.reportPending]; exact h.report z)
    h.trace h.number
    (fun quiet => by
      obtain ⟨active, staged, generation, settings, staging, zones, cache, presence, current, phase, status, writing, noReport,
        segments⟩ := h.load quiet
      exact ⟨active, staged, generation, settings, staging,
        by simp only [Machine.advance, zones]; exact mapNumbered_replicate fun _ => ZoneState.tick_idle,
        cache, presence, current, phase, status, writing, noReport, segments⟩)

theorem execDeviceTimeAdvance_law (h : s.Law) : LeadsTo (execDeviceTimeAdvance s) State.Law :=
  leadsTo_ite (fun _ => h.advance) h

/-! ## Expiries -/

theorem execHoldExpiry_law (h : s.Law) (z : Nat) : LeadsTo (execHoldExpiry z s) State.Law := by
  refine leadsTo_ite (fun due => ?_) h
  have present : (s.record z).present = true := h.present_of_ne_idle fun idle => by
    simp [State.holdDue, idle, ZoneState.idle] at due
  have after := (h.zone_sound z).onHoldExpiry (h.record_inRange z) (s.freshPresence s.active.windows z)
  exact h.zoneEvent present after.level after.range ((s.zone z).sameMarks_onHoldExpiry _ _)

theorem execGraceExpiry_law (h : s.Law) (z : Nat) : LeadsTo (execGraceExpiry z s) State.Law := by
  refine leadsTo_ite (fun due => ?_) h
  have present : (s.record z).present = true := h.present_of_ne_idle fun idle => by
    simp [State.graceDue, idle, ZoneState.idle] at due
  have after := (h.zone_sound z).onGraceExpiry
  exact h.zoneEvent present after.level after.range ⟨rfl, rfl⟩

/-! ## The shadow machine -/

theorem State.shadowZone_setShadow_cases (s : State) (z y : Nat) (v : ZoneState) :
    (y = z ∧ (s.setShadow z v).shadowZone y = v) ∨ (s.setShadow z v).shadowZone y = s.shadowZone y := by
  rw [State.shadowZone_setShadow]
  split
  · next h => exact .inl ⟨h.1, rfl⟩
  · exact .inr rfl

/-- A shadow record may be written in rehearsal with the laws kept. -/
theorem State.Law.setShadow (h : s.Law) (rehearses : s.staging = .rehearsing) {z : Nat} {v : ZoneState}
    (sound : v.Sound (s.stagedRecord z)) : (s.setShadow z v).Law :=
  h.ran rfl h.segments h.uplink h.zones
    ⟨fun y => by
      obtain ⟨rfl, eq⟩ | eq := s.shadowZone_setShadow_cases z y v
      · rw [eq]; exact ⟨sound.level, sound.range⟩
      · rw [eq]; exact ⟨(h.shadow_sound y).level, (h.shadow_sound y).range⟩,
      fun still => absurd rehearses still⟩
    (fun _ => rfl) rfl (fun _ => rfl) h.table h.cache h.report h.trace h.number h.load

theorem Settings.InRange.tracePrescale_le {c : Settings} (h : c.InRange) : c.tracePrescale ≤ 255 := by
  obtain ⟨-, -, -, -, -, -, le⟩ := h; exact le

theorem State.Law.shadowCommand (h : s.Law) (awake : s.Awake) (source : Nat) (c : CommandEntry) :
    (shadowCommand source c s).Law := by
  have prescale := h.settings_inRange.tracePrescale_le
  unfold Machine.shadowCommand
  split
  · exact (h.setEngine awake (e := { s.engine with traceCount := 0 }) rfl (Nat.zero_le _)).offerTrace _
  · exact h.setEngine awake rfl (by dsimp only; omega)

@[simp] theorem offerTrace_standing (x : Trace) (s : State) : (offerTrace x s).standing = s.standing := rfl

theorem shadowCommand_standing (source : Nat) (c : CommandEntry) (s : State) :
    (shadowCommand source c s).standing = s.standing := by
  obtain eq | ⟨x, eq⟩ := shadowCommand_cases source c s <;> rw [eq] <;> rfl

theorem State.Awake.of_standing {t : State} (h : s.Awake) (stands : t.standing = s.standing) : t.Awake :=
  ⟨(congrArg State.resetLow stands :).trans h.1, (congrArg State.loading stands :).trans h.2⟩

theorem State.Law.shadowIssue (h : s.Law) (awake : s.Awake) (source z : Nat) : (shadowIssue source z s).Law := by
  suffices ∀ (cs : List (Nat × CommandEntry)) (t : State), t.Law → t.Awake →
      (cs.foldl (fun t c => Machine.shadowCommand source c.2 t) t).Law from this _ s h awake
  intro cs
  induction cs with
  | nil => exact fun _ h _ => h
  | cons c cs ih =>
    exact fun t h awake => ih _ (h.shadowCommand awake source c.2) (awake.of_standing (shadowCommand_standing ..))

theorem State.Law.shadowEvent (h : s.Law) (rehearses : s.staging = .rehearsing) (source : Nat) {z : Nat} {v : ZoneState}
    (sound : v.Sound (s.stagedRecord z)) : (shadowEvent source z v s).Law := by
  have written := h.setShadow rehearses sound
  unfold Machine.shadowEvent
  dsimp only
  split
  · exact written.shadowIssue (h.awake_of_staging (by simp [rehearses])) source z
  · exact written

theorem execShadowHoldExpiry_law (h : s.Law) (z : Nat) : LeadsTo (execShadowHoldExpiry z s) State.Law := by
  refine leadsTo_ite (fun due => ?_) h
  have rehearses : s.staging = .rehearsing := by
    simp only [State.shadowHoldDue, Bool.and_eq_true, decide_eq_true_eq] at due
    obtain ⟨⟨⟨-, rehearses⟩, -⟩, -⟩ := due
    exact rehearses
  exact h.shadowEvent rehearses 0 ((h.shadow_sound z).onHoldExpiry (h.stagedRecord_inRange z) _)

theorem execShadowGraceExpiry_law (h : s.Law) (z : Nat) : LeadsTo (execShadowGraceExpiry z s) State.Law := by
  refine leadsTo_ite (fun due => ?_) h
  have rehearses : s.staging = .rehearsing := by
    simp only [State.shadowGraceDue, Bool.and_eq_true, decide_eq_true_eq] at due
    obtain ⟨⟨⟨-, rehearses⟩, -⟩, -⟩ := due
    exact rehearses
  exact h.shadowEvent rehearses 0 (h.shadow_sound z).onGraceExpiry

end

end Sys2Proof.Machine
end

/-! # The laws across translations, the trunk and the sweep -/

section
namespace Sys2Proof.Machine

section
variable {s : State}

/-! ## What stands across the shared operations -/

theorem offerCommand_standing (n : Nat) (c : CommandEntry) (s : State) : (offerCommand n c s).standing = s.standing := by
  obtain ⟨q, -, eq⟩ | ⟨-, eq⟩ := offerCommand_cases n c s <;> rw [eq] <;> rfl

@[simp] theorem offerCommands_standing (cs : List (Nat × CommandEntry)) (s : State) :
    (offerCommands cs s).standing = s.standing :=
  offerCommands_induction (P := fun t => t.standing = s.standing) cs s rfl fun t c _ eq =>
    (offerCommand_standing c.1 c.2 t).trans eq

@[simp] theorem levelIssue_standing (z fade : Nat) (s : State) : (levelIssue z fade s).standing = s.standing :=
  offerCommands_standing _ s

@[simp] theorem normalIssue_standing (z : Nat) (s : State) : (normalIssue z s).standing = s.standing :=
  levelIssue_standing z _ s

@[simp] theorem damperIssue_standing (z : Nat) (s : State) : (damperIssue z s).standing = s.standing := by
  obtain ⟨-, eq⟩ | ⟨p, -, eq⟩ := damperIssue_cases z s <;> rw [eq]
  exact offerCommands_standing _ s

@[simp] theorem setZone_standing (s : State) (z : Nat) (v : ZoneState) : (s.setZone z v).standing = s.standing := rfl
@[simp] theorem setShadow_standing (s : State) (z : Nat) (v : ZoneState) : (s.setShadow z v).standing = s.standing := rfl
@[simp] theorem setSegment_standing (s : State) (n : Nat) (g : Segment) : (s.setSegment n g).standing = s.standing := rfl

@[simp] theorem reportOnChange_standing (before : Occupancy) (z : Nat) (s : State) :
    (reportOnChange before z s).standing = s.standing := by
  obtain eq | eq := reportOnChange_cases before z s <;> rw [eq]
  exact queueReport_standing z s

@[simp] theorem zoneEvent_standing (z : Nat) (after : ZoneState) (s : State) : (zoneEvent z after s).standing = s.standing := by
  obtain ⟨t, rfl | rfl, eq | eq⟩ := zoneEvent_cases z after s <;> simp [eq]

@[simp] theorem zoneAction_standing (z : Nat) (after : ZoneState) (s : State) :
    (zoneAction z after s).standing = s.standing := by simp [zoneAction]

@[simp] theorem shadowIssue_standing (source z : Nat) (s : State) : (shadowIssue source z s).standing = s.standing := by
  suffices ∀ (cs : List (Nat × CommandEntry)) (t : State),
      (cs.foldl (fun t c => shadowCommand source c.2 t) t).standing = t.standing from this _ s
  intro cs
  induction cs with
  | nil => exact fun _ => rfl
  | cons c cs ih => exact fun t => (ih _).trans (shadowCommand_standing ..)

@[simp] theorem shadowEvent_standing (source z : Nat) (after : ZoneState) (s : State) :
    (shadowEvent source z after s).standing = s.standing := by
  unfold shadowEvent
  dsimp only
  split <;> simp

@[simp] theorem recordReport_standing (a : Nat) (role : Role) (last : Report) (second : Second) (s : State) :
    (recordReport a role last second s).standing = s.standing := by
  unfold recordReport
  dsimp only
  split <;> rfl

@[simp] theorem handOn_standing (w : Window) (c : FrameClass) (r : IngressRecord) (s : State) :
    (handOn w c r s).standing = s.standing := by
  cases c <;> simp [handOn, actOnZone]

@[simp] theorem checkRole_standing (w : Window) (c : FrameClass) (r : IngressRecord) (s : State) :
    (checkRole w c r s).standing = s.standing := by
  unfold checkRole
  split
  · rfl
  · split
    · exact handOn_standing w c r s
    · rfl

@[simp] theorem offerForward_standing (f : FieldUp) (s : State) : (offerForward f s).standing = s.standing := rfl

/-- A choice between two states of which the same stands. -/
theorem ite_standing {c : Prop} [Decidable c] {t u : State} (t_stands : t.standing = s.standing)
    (u_stands : u.standing = s.standing) : (if c then t else u).standing = s.standing := by
  split <;> assumption

/-- The state once the place of a listed source is checked (R12). -/
def placeChecked (w : Window) (r : IngressRecord) (s : State) : State :=
  if w.segment ≠ r.segment then report .misplacedDevice (some r.frame.source.toNat) s else s

/-- The state once a listed record is classified (R27). -/
def classChecked (w : Window) (r : IngressRecord) (s : State) : State :=
  if (winningEntry s.active.classifier r.frame).isNone then
    report .classifierMiss (some r.frame.source.toNat) (placeChecked w r s)
  else placeChecked w r s

/-- A listed record is checked for its place, classified, acts, and goes up, in this order (R28). -/
theorem translateListed_eq (w : Window) (r : IngressRecord) (s : State) :
    translateListed w r s =
      if w.translate = false ∧ w.forward = false then placeChecked w r s
      else
        let c := classOf s.active.classifier r.frame
        let t := checkRole w c r (classChecked w r s)
        if c = .pass ∨ w.forward = true then
          offerForward { segment := r.segment, zone := w.zone, cls := c, frame := r.frame } t
        else t := rfl

@[simp] theorem placeChecked_standing (w : Window) (r : IngressRecord) (s : State) :
    (placeChecked w r s).standing = s.standing := ite_standing rfl rfl

@[simp] theorem classChecked_standing (w : Window) (r : IngressRecord) (s : State) :
    (classChecked w r s).standing = s.standing :=
  ite_standing ((report_standing ..).trans (placeChecked_standing w r s)) (placeChecked_standing w r s)

@[simp] theorem translateListed_standing (w : Window) (r : IngressRecord) (s : State) :
    (translateListed w r s).standing = s.standing := by
  have acted := (checkRole_standing w (classOf s.active.classifier r.frame) r _).trans (classChecked_standing w r s)
  rw [translateListed_eq]
  exact ite_standing (placeChecked_standing w r s) (ite_standing ((offerForward_standing _ _).trans acted) acted)

@[simp] theorem reportUnordered_standing (c₁ c₂ : Condition) (scope : Option Nat) (s : State) :
    (reportUnordered c₁ c₂ scope s).standing = s.standing := ite_standing rfl rfl

@[simp] theorem translateUnlisted_standing (closed : Bool) (r : IngressRecord) (s : State) :
    (translateUnlisted closed r s).standing = s.standing := by
  have reported := ite_standing (c := (winningEntry s.active.classifier r.frame).isNone)
    (reportUnordered_standing .classifierMiss .unlistedSource (some r.frame.source.toNat) s)
    (report_standing .unlistedSource (some r.frame.source.toNat) s)
  exact ite_standing reported ((offerForward_standing _ _).trans reported)

/-! ## The tables -/

/-- A write of the presence table that keeps its addresses and its missed counts. -/
theorem State.Law.setPresence (h : s.Law) {p : List PresenceEntry}
    (same : p.map PresenceEntry.address = s.presence.map PresenceEntry.address) (missed : ∀ e ∈ p, e.MissedLaw) :
    ({ s with presence := p } : State).Law := by
  obtain ⟨cacheKeyed, keyed, supervised, -⟩ := h.table
  refine h.ran rfl h.segments h.uplink h.zones h.shadow (fun _ => rfl) rfl (fun _ => rfl)
    ⟨cacheKeyed, ?_, fun a => ?_, missed⟩ h.cache h.report h.trace h.number fun quiet => ?_
  · show (p.map PresenceEntry.address).Pairwise (· < ·)
    rwa [same]
  · show a ∈ p.map PresenceEntry.address ↔ _
    rw [same]; exact supervised a
  · obtain ⟨active, staged, generation, settings, staging, zones, cache, presence, rest⟩ := h.load quiet
    exact ⟨active, staged, generation, settings, staging, zones, cache, by simpa [presence] using same, rest⟩

theorem State.Law.markHeard (h : s.Law) (a : Nat) : (markHeard a s).Law := by
  obtain ⟨-, -, -, missed⟩ := h.table
  refine h.setPresence ?_ fun e he => ?_
  · rw [List.map_map]
    refine List.map_congr_left fun e _ => ?_
    simp only [Function.comp_apply]
    split <;> rfl
  · obtain ⟨x, hx, rfl⟩ := List.mem_map.1 he
    split
    · exact missed x hx
    · exact missed x hx

/-- A write of the point cache while the part is awake. -/
theorem State.Law.setCache (h : s.Law) {c : List CacheEntry} (awake : s.Awake)
    (keyed : (c.map CacheEntry.address).Pairwise (· < ·)) (cache : ({ s with cache := c } : State).CacheLaw) :
    ({ s with cache := c } : State).Law := by
  obtain ⟨-, table⟩ := h.table
  exact h.ran rfl h.segments h.uplink h.zones h.shadow (fun _ => rfl) rfl (fun _ => rfl) ⟨keyed, table⟩ cache h.report h.trace
    h.number (State.Awake.load awake)

/-- A role and a report that a sensor of the role makes (R99). -/
def Report.Fits (role : Role) (last : Report) : Prop :=
  role = .occupancySensor ∧ (last = .presence ∨ last = .absence)
    ∨ role = .temperatureSensor ∧ ∃ t, last = .reading t ∧ -4000 ≤ t ∧ t ≤ 8500

theorem reading_between (timesTen : Bool) (value : BitVec 16) : -4000 ≤ reading timesTen value ∧ reading timesTen value ≤ 8500 := by
  unfold reading saturate; omega

theorem State.Law.recordReport (h : s.Law) (awake : s.Awake) {a : Nat} {w : Window} (listed : lookup s.active.windows a = some w)
    {last : Report} (fits : last.Fits w.role) (second : Second) : (recordReport a w.role last second s).Law := by
  obtain ⟨keyed, -⟩ := h.table
  have role : ((cacheEntry s.cache a).map CacheEntry.role).getD w.role = w.role := by
    cases found : cacheEntry s.cache a with
    | none => rfl
    | some e =>
      obtain ⟨he, rfl⟩ := (find_eq_some_of_ascends keyed).1 found
      obtain ⟨⟨v, at_e, same⟩, -⟩ := h.cache e he
      rw [listed] at at_e
      cases at_e
      exact same.symm
  have written : ({ s with cache := writeCache s.cache a w.role last second } : State).Law := by
    refine h.setCache awake (insertAscending_ascends _ keyed) fun e he => ?_
    obtain rfl | ⟨he, -⟩ := (mem_insertAscending keyed).1 he
    · simp only [role]
      exact ⟨⟨w, listed, rfl⟩, trivial, fits⟩
    · exact h.cache e he
  unfold Machine.recordReport
  dsimp only
  split
  · exact written.reported _ _
  · exact written

/-! ## The translation of a record -/

/-- The zone of a Translate window of a valid bank is present (R134). -/
theorem Bank.Valid.zone_present {b : Bank} (valid : b.Valid) {w : Window} (listed : w ∈ b.windows) (translate : w.translate = true) :
    (b.zone w.zone).present = true := by
  obtain ⟨-, passes⟩ := valid
  obtain ⟨-, missing, zero, -⟩ := (firstFailure_eq_none_iff b).1 passes
  have missing := List.findIdx?_eq_none_iff.1 missing w listed
  have zero := List.findIdx?_eq_none_iff.1 zero w listed
  simp only [translate, Bool.true_and, beq_eq_false_iff_ne, Bool.and_eq_false_iff, bne_eq_false_iff_eq,
    Bool.not_eq_false'] at missing zero
  exact missing.resolve_left zero

theorem mem_of_lookup {windows : List Window} {a : Nat} {w : Window} (h : lookup windows a = some w) : w ∈ windows := by
  obtain ⟨before, after, rfl, -⟩ := lookup_eq_some_iff.1 h
  exact List.mem_append_cons_self

theorem State.Law.actOnZone (h : s.Law) {z : Nat} (present : (s.record z).present = true) (c : FrameClass) :
    (actOnZone z c s).Law :=
  have after := (h.zone_sound z).onClass (h.record_inRange z) c
  h.zoneEvent present after.level after.range ((s.zone z).sameMarks_onClass _ c)

theorem State.Law.handOn (h : s.Law) (awake : s.Awake) {w : Window} {c : FrameClass} {r : IngressRecord}
    (listed : lookup s.active.windows r.frame.source.toNat = some w) (translate : w.translate = true)
    (accepts : w.role.accepts c = true) : (handOn w c r s).Law := by
  have present : (s.record w.zone).present = true := h.active_valid.zone_present (mem_of_lookup listed) translate
  have acts := h.actOnZone present
  cases c with
  | presence =>
    have stands : (Machine.actOnZone w.zone .presence s).standing = s.standing := zoneEvent_standing ..
    have active : (Machine.actOnZone w.zone .presence s).active = s.active := (congrArg State.active stands :)
    have sensor : w.role = .occupancySensor := by cases k : w.role <;> simp [k, Role.accepts] at accepts ⊢
    exact (acts .presence).recordReport (awake.of_standing stands) (by rw [active]; exact listed) (.inl ⟨sensor, .inl rfl⟩) _
  | absence =>
    have sensor : w.role = .occupancySensor := by cases k : w.role <;> simp [k, Role.accepts] at accepts ⊢
    exact h.recordReport awake listed (.inl ⟨sensor, .inr rfl⟩) _
  | temperature =>
    have sensor : w.role = .temperatureSensor := by cases k : w.role <;> simp [k, Role.accepts] at accepts ⊢
    exact h.recordReport awake listed (.inr ⟨sensor, _, rfl, reading_between _ _⟩) _
  | keyOn | keyOff | keyRaise | keyLower | setWarmer | setCooler => exact acts _
  | pass | ignore => exact h

theorem State.Law.checkRole (h : s.Law) (awake : s.Awake) {w : Window} {c : FrameClass} {r : IngressRecord}
    (listed : lookup s.active.windows r.frame.source.toNat = some w) : (checkRole w c r s).Law := by
  unfold Machine.checkRole
  split
  · exact h
  · next acts =>
    split
    · next accepts => exact h.handOn awake listed (by simpa using fun k => acts (.inl k)) accepts
    · exact h.reported _ _

/-- A report made or not. -/
theorem State.Law.reportedIf (h : s.Law) (p : Prop) [Decidable p] (c : Condition) (scope : Option Nat) :
    (if p then Machine.report c scope s else s).Law := by
  split
  · exact h.reported c scope
  · exact h

/-- A copy offered or not. -/
theorem State.Law.forwardedIf (h : s.Law) (p : Prop) [Decidable p] (f : FieldUp) : (if p then Machine.offerForward f s else s).Law := by
  split
  · exact h.offerForward f
  · exact h

theorem State.Law.placeChecked (h : s.Law) (w : Window) (r : IngressRecord) : (placeChecked w r s).Law :=
  h.reportedIf _ _ _

theorem State.Law.classChecked (h : s.Law) (w : Window) (r : IngressRecord) : (classChecked w r s).Law :=
  (h.placeChecked w r).reportedIf _ _ _

theorem State.Law.translateListed (h : s.Law) (awake : s.Awake) {w : Window} {r : IngressRecord}
    (listed : lookup s.active.windows r.frame.source.toNat = some w) : (translateListed w r s).Law := by
  have stands := classChecked_standing w r s
  have active : (Machine.classChecked w r s).active = s.active := (congrArg State.active stands :)
  have acted := (h.classChecked w r).checkRole (c := classOf s.active.classifier r.frame) (awake.of_standing stands)
    (by rw [active]; exact listed)
  rw [translateListed_eq]
  dsimp only
  split
  · exact h.placeChecked w r
  · exact acted.forwardedIf _ _

theorem State.Law.reportUnordered (h : s.Law) (c₁ c₂ : Condition) (scope : Option Nat) : (reportUnordered c₁ c₂ scope s).Law := by
  have drawn : ({ s with freeCount := s.freeCount + 1 } : State).Law := { h with }
  unfold Machine.reportUnordered
  dsimp only
  split
  · exact (drawn.reported c₁ scope).reported c₂ scope
  · exact (drawn.reported c₂ scope).reported c₁ scope

theorem State.Law.translateUnlisted (h : s.Law) (closed : Bool) (r : IngressRecord) : (translateUnlisted closed r s).Law := by
  have reported : (if (winningEntry s.active.classifier r.frame).isNone then
      Machine.reportUnordered .classifierMiss .unlistedSource (some r.frame.source.toNat) s
      else Machine.report .unlistedSource (some r.frame.source.toNat) s).Law := by
    split
    · exact h.reportUnordered _ _ _
    · exact h.reported _ _
  unfold Machine.translateUnlisted
  dsimp only
  split
  · exact reported
  · exact reported.offerForward _

theorem State.Law.stagedRun (h : s.Law) (rehearses : s.staging = .rehearsing) (r : IngressRecord) : (stagedRun r s).Law := by
  unfold Machine.stagedRun
  dsimp only
  split
  · exact h
  · split
    · exact h.shadowEvent rehearses _ ((h.shadow_sound _).onClass (h.stagedRecord_inRange _) _)
    · exact h

@[simp] theorem stagedRun_standing (r : IngressRecord) (s : State) : (stagedRun r s).standing = s.standing := by
  unfold stagedRun
  dsimp only
  split
  · rfl
  · exact ite_standing (shadowEvent_standing ..) rfl

/-- The active part of a translation: the outcome of the active bank (R28). -/
def activeRun (x : Translation) (s : State) : State :=
  match lookup s.active.windows x.record.frame.source.toNat with
  | some w => translateListed w x.record (markHeard x.record.frame.source.toNat s)
  | none => translateUnlisted x.closedFloor x.record (markHeard x.record.frame.source.toNat s)

/-- A translation is the active part, the staged run where rehearsal has one, and the engine set free. -/
theorem translate_eq (x : Translation) (s : State) :
    translate x s =
      let t := if x.rehearsed = true ∧ s.staging = .rehearsing then stagedRun x.record (activeRun x s) else activeRun x s
      { t with engine := { t.engine with current := none } } := rfl

@[simp] theorem activeRun_standing (x : Translation) (s : State) : (activeRun x s).standing = s.standing := by
  unfold activeRun
  split
  · exact translateListed_standing ..
  · exact translateUnlisted_standing ..

theorem State.Law.activeRun (h : s.Law) (awake : s.Awake) (x : Translation) : (activeRun x s).Law := by
  have heard := h.markHeard x.record.frame.source.toNat
  unfold Machine.activeRun
  split
  · next w listed => exact heard.translateListed awake listed
  · exact heard.translateUnlisted _ _

theorem State.Law.translate (h : s.Law) (awake : s.Awake) (x : Translation) : (translate x s).Law := by
  have acted := h.activeRun awake x
  have stands := activeRun_standing x s
  have staging : (Machine.activeRun x s).staging = s.staging := (congrArg State.staging stands :)
  rw [translate_eq]
  dsimp only
  split
  · next k =>
    obtain ⟨-, rehearses⟩ := k
    have ran := acted.stagedRun (staging.trans rehearses) x.record
    exact ran.setEngine (awake.of_standing ((stagedRun_standing _ _).trans stands)) rfl ran.trace
  · exact acted.setEngine (awake.of_standing stands) rfl acted.trace

theorem execTranslationCompletion_law (h : s.Law) : LeadsTo (execTranslationCompletion s) State.Law := by
  refine leadsTo_next ?_
  split
  · next x busy =>
    split
    · exact h.translate (h.awake_of_current busy) x
    · exact h
  · exact h

/-! ## The trunk -/

theorem State.Law.offerRequest (h : s.Law) (f : TrunkFrame) : (offerRequest f s).Law := by
  unfold Machine.offerRequest
  split
  · exact { h with }
  · exact h

theorem State.Law.holdFrame (h : s.Law) (cutting : s.staging = .cutting) (d : FieldDown) : (holdFrame s d).Law := by
  obtain ⟨room, eq⟩ | eq := holdFrame_cases s d <;> rw [eq]
  · obtain ⟨segments, uplink, -, down⟩ := h.queue
    obtain ⟨-, during⟩ := h.cutover
    exact { h with
      queue := ⟨segments, uplink, by simpa using room, down⟩
      cutover := ⟨fun free => absurd cutting free, during⟩ }
  · exact h.reported _ _

theorem State.Law.deliver (h : s.Law) (awake : s.Awake) (d : FieldDown) : (deliver s d).Law := by
  obtain ⟨n, -, room, eq⟩ | eq := deliver_cases s d <;> rw [eq]
  · have ⟨⟨ingress, commands, _, keys⟩, command, burst, count⟩ := h.segment n
    exact h.ran rfl
      (h.segments.setSegment n ⟨⟨ingress, commands, by simpa using room, keys⟩, command, burst, count⟩)
      h.uplink h.zones h.shadow (fun _ => rfl) rfl (fun _ => rfl) h.table h.cache h.report h.trace h.number
      (State.Awake.load awake)
  · exact h.reported _ _

theorem State.Law.fieldDown (h : s.Law) (running : s.resetLow = false) (d : FieldDown) : (fieldDown d s).Law := by
  unfold Machine.fieldDown
  split
  · exact h.reported _ _
  · next loaded =>
    split
    · next cutting => exact h.holdFrame cutting d
    · exact h.deliver ⟨running, by simpa using loaded⟩ d

theorem State.Law.acceptTrunk (h : s.Law) (running : s.resetLow = false) (f : TrunkFrame) : (acceptTrunk f s).Law := by
  unfold Machine.acceptTrunk
  split
  · split
    · exact h.offerRequest f
    · exact h.reported _ _
  · split
    · split
      · split
        · exact h.fieldDown running _
        · exact h
      · exact h
    · exact h

theorem execTrunkFrameReceived_law (h : s.Law) (bytes : List Byte) : LeadsTo (execTrunkFrameReceived bytes s) State.Law := by
  refine leadsTo_ite (fun due => ?_) h
  have running : s.resetLow = false := by
    simp only [State.running, Bool.and_eq_true, Bool.not_eq_true'] at due
    exact due.1
  split
  · split
    · exact h.acceptTrunk running _
    · exact h
  · exact h

/-- A zone with a waiting report is one of the 255, and the part is awake. -/
theorem State.Law.of_waiting (h : s.Law) {r : ZoneReport} (waits : r ∈ s.uplink.reports) :
    s.Awake ∧ 1 ≤ r.zone ∧ r.zone ≤ 255 := by
  have pending : (s.zone r.zone).reportPending = true := by
    rw [h.report, State.reportWaits, List.any_eq_true]
    exact ⟨r, waits, by simp⟩
  have present := h.present_of_ne_idle fun idle => by
    rw [idle] at pending
    exact Bool.false_ne_true pending
  exact ⟨h.awake_of_present present, State.isZone_of_present present⟩

/-- The grant of a report: it leaves, and its zone is no longer report-pending (R124). -/
theorem State.Law.grantReport (h : s.Law) {r : ZoneReport} {rest : List ZoneReport} (head : s.uplink.reports = r :: rest)
    (frame : Option (List Byte)) :
    ({ s with
        uplink := { s.uplink with reports := rest }
        zones := put s.zones r.zone { s.zone r.zone with reportPending := false }
        trunkTransmitting := frame } : State).Law := by
  obtain ⟨awake, low, high⟩ := h.of_waiting (r := r) (by simp [head])
  obtain ⟨⟨replies, forwards, traces, reports, notices⟩, down, discards, notice⟩ := h.uplink
  rw [head, List.map_cons, List.nodup_cons] at reports
  obtain ⟨once, reports⟩ := reports
  have zone := s.zone_setZone_cases r.zone (v := { s.zone r.zone with reportPending := false })
  refine h.ran (t := { s with
      uplink := { s.uplink with reports := rest }
      zones := put s.zones r.zone { s.zone r.zone with reportPending := false }
      trunkTransmitting := frame })
    rfl h.segments ⟨⟨replies, forwards, traces, reports, notices⟩, down, discards, notice⟩ (fun y => ?_) h.shadow (fun y => ?_) rfl
    (fun _ => rfl) h.table h.cache (fun y => ?_) h.trace h.number (State.Awake.load awake)
  · show ((s.setZone r.zone _).zone y).Lawful (s.record y)
    obtain ⟨level, range, idle⟩ := h.zones y
    obtain ⟨rfl, eq⟩ | eq := zone y <;> rw [eq]
    · exact ⟨level, range, fun absent => by rw [idle absent]; rfl⟩
    · exact ⟨level, range, idle⟩
  · show ((s.setZone r.zone _).zone y).frozen = _
    obtain ⟨rfl, eq⟩ | eq := zone y <;> rw [eq]
  · show ((s.setZone r.zone _).zone y).reportPending = rest.any fun x => x.zone == y
    rw [State.zone_setZone]
    by_cases same : y = r.zone
    · subst same
      rw [if_pos ⟨rfl, low, high⟩]
      symm
      simpa [List.any_eq_false] using fun x hx eq => once (List.mem_map.2 ⟨x, hx, eq⟩)
    · rw [if_neg fun k => same k.1, h.report y, State.reportWaits, head]
      simp [Ne.symm same]

theorem State.Law.startTrunk (h : s.Law) : (startTrunk s).Law := by
  have up := h.uplink
  obtain ⟨⟨replies, forwards, traces, reports, notices⟩, down, discards, notice⟩ := up
  unfold Machine.startTrunk
  dsimp only
  split
  · next r rest head =>
    rw [head] at replies down
    exact { h.setUplink (q := { s.uplink with replies := rest })
      ⟨⟨(Nat.le_succ _).trans replies, forwards, traces, reports, notices⟩, fun k => absurd (down k).1 (by simp), discards,
        notice⟩ rfl with }
  · next noReply =>
    split
    · exact { h.setUplink (q := { s.uplink with notices := [] })
        ⟨⟨replies, forwards, traces, reports, List.nodup_nil⟩, fun k => ⟨(down k).1, rfl, (down k).2.2⟩, discards, notice⟩ rfl with }
    · split
      · next head => exact h.grantReport head _
      · split
        · next f rest head =>
          rw [head] at forwards down
          exact { h.setUplink (q := { s.uplink with forwards := rest })
            ⟨⟨replies, (Nat.le_succ _).trans forwards, traces, reports, notices⟩,
              fun k => absurd (down k).2.2.1 (by simp), discards, notice⟩ rfl with }
        · split
          · next x rest head =>
            rw [head] at traces down
            exact { h.setUplink (q := { s.uplink with traces := rest })
              ⟨⟨replies, forwards, (Nat.le_succ _).trans traces, reports, notices⟩,
                fun k => absurd (down k).2.2.2 (by simp), discards, notice⟩ rfl with }
          · exact h

theorem execTrunkTransmitStart_law (h : s.Law) : LeadsTo (execTrunkTransmitStart s) State.Law :=
  leadsTo_ite (fun _ => h.startTrunk) h

theorem execTrunkTransmitCompletion_law (h : s.Law) : LeadsTo (execTrunkTransmitCompletion s) State.Law :=
  leadsTo_ite (fun _ => { h with }) h

/-- A change of the link and of the uplink queues that keeps the waiting reports. -/
theorem State.Law.setLink (h : s.Law) {l : LineState} {q : Uplink} (frame : Option (List Byte))
    (uplink : ({ s with link := l, uplink := q } : State).UplinkLaw) (reports : q.reports = s.uplink.reports) :
    ({ s with link := l, uplink := q, trunkTransmitting := frame } : State).Law :=
  h.ran rfl h.segments uplink h.zones h.shadow (fun _ => rfl) rfl (fun _ => rfl) h.table h.cache
    (fun z => by
      have waits := h.report z
      rw [State.reportWaits] at waits ⊢
      rw [reports]; exact waits)
    h.trace h.number
    (fun resting => by
      obtain ⟨active, staged, generation, settings, staging, zones, cache, presence, current, phase, status, writing, noReport,
        segments⟩ := h.load resting
      exact ⟨active, staged, generation, settings, staging, zones, cache, presence, current, phase, status, writing,
        reports.trans noReport, segments⟩)

theorem execTrunkLoss_law (h : s.Law) : LeadsTo (execTrunkLoss s) State.Law := by
  refine leadsTo_ite (fun _ => ?_) h
  obtain ⟨⟨-, -, -, reports, -⟩, -, ⟨forwarded, traced⟩, notice⟩ := h.uplink
  exact h.setLink none
    ⟨⟨Nat.zero_le _, Nat.zero_le _, Nat.zero_le _, reports, List.nodup_nil⟩, fun _ => ⟨rfl, rfl, rfl, rfl⟩,
      ⟨advanceCountBy_le forwarded _, advanceCountBy_le traced _⟩, notice⟩ rfl

theorem foldl_joinNotices_nodup {α : Type} (f : α → NoticeRecord) (cs : List α) {q : List NoticeRecord}
    (h : (q.map NoticeRecord.condition).Nodup) :
    ((cs.foldl (fun q c => joinNotices q (f c)) q).map NoticeRecord.condition).Nodup := by
  induction cs generalizing q with
  | nil => exact h
  | cons c cs ih => exact ih (joinNotices_nodup (f c) h)

theorem State.Law.offerPending (h : s.Law) (up : s.link = .up) : (offerPending s).Law := by
  obtain ⟨⟨replies, forwards, traces, reports, notices⟩, -, discards, notice⟩ := h.uplink
  exact h.setUplink (q := (Machine.offerPending s).uplink)
    ⟨⟨replies, forwards, traces, reports, foldl_joinNotices_nodup _ _ notices⟩, fun isDown => by simp [up] at isDown, discards,
      notice⟩ rfl

theorem execTrunkRestoration_law (h : s.Law) : LeadsTo (execTrunkRestoration s) State.Law := by
  refine leadsTo_ite (fun _ => ?_) h
  obtain ⟨queue, -, discards, notice⟩ := h.uplink
  have restored : ({ s with link := .up } : State).Law := { h.setLink (l := .up) (q := s.uplink) s.trunkTransmitting
    ⟨queue, nofun, discards, notice⟩ rfl with }
  exact (restored.reported _ _).offerPending rfl

/-! ## The sweep -/

theorem execSweepTimerExpiry_law (h : s.Law) : LeadsTo (execSweepTimerExpiry s) State.Law := by
  refine leadsTo_ite (fun due => h.settles (.expireSweepTimer s) ?_) h
  simp only [State.sweepDue, State.running, Bool.and_eq_true, Bool.not_eq_true'] at due
  obtain ⟨⟨running, loaded⟩, -⟩ := due
  exact ⟨running, loaded⟩

/-- A write of the sweep while the part is awake. -/
theorem State.Law.setSweep (h : s.Law) {w : Sweep} (awake : s.Awake) (deferred : s.staging ≠ .cutting → w.deferred = s.sweep.deferred)
    (number : w.number ≤ 65535) : ({ s with sweep := w } : State).Law :=
  h.ran rfl h.segments h.uplink h.zones h.shadow (fun _ => rfl) rfl deferred h.table h.cache h.report h.trace number
    (State.Awake.load awake)

theorem execSweepStart_law (h : s.Law) : LeadsTo (execSweepStart s) State.Law := by
  refine leadsTo_ite (fun due => ?_) h
  have awake := h.awake_of_phase fun idle => by simp [idle] at due
  exact h.setSweep awake (fun _ => rfl) (by dsimp only; split <;> omega)

theorem PresenceEntry.visited_address (e : PresenceEntry) (limit : Nat) : (e.visited limit).1.address = e.address := by
  unfold PresenceEntry.visited
  split
  · rfl
  · split
    · rfl
    · split <;> rfl
    · rfl

/-- A visit keeps the missed count in its range: it becomes SILENT at the limit, which is at most 15 (R167). -/
theorem PresenceEntry.visited_missedLaw {e : PresenceEntry} (h : e.MissedLaw) {limit : Nat} (most : limit ≤ 15) :
    (e.visited limit).1.MissedLaw := by
  have ⟨small, present, _⟩ := h
  unfold PresenceEntry.visited
  split
  · exact ⟨Nat.zero_le _, fun _ => Nat.zero_le _, nofun⟩
  · split
    · next unknown => exact ⟨Nat.zero_le _, fun _ => Nat.zero_le _, fun _ => rfl⟩
    · next isPresent =>
      have := present isPresent
      split
      · exact ⟨by dsimp only; omega, fun _ => by dsimp only; omega, fun k => by simp [isPresent] at k⟩
      · exact ⟨by dsimp only; omega, nofun, nofun⟩
    · exact h

theorem Settings.InRange.silentLimit_le {c : Settings} (h : c.InRange) : c.silentLimit ≤ 15 := by
  obtain ⟨-, ⟨-, le⟩, -⟩ := h; exact le

theorem State.visit_address (s : State) (e : PresenceEntry) : (s.visit e).1.address = e.address := by
  unfold State.visit
  split
  · split
    · exact e.visited_address _
    · rfl
  · rfl

theorem State.Law.visit_missedLaw (h : s.Law) {e : PresenceEntry} (lawful : e.MissedLaw) : (s.visit e).1.MissedLaw := by
  unfold State.visit
  split
  · split
    · exact PresenceEntry.visited_missedLaw lawful h.settings_inRange.silentLimit_le
    · exact lawful
  · exact lawful

/-- What every report keeps, the reports of a presence pass keep. -/
theorem presencePass_induction {P : State → Prop} (s : State)
    (start : P { s with presence := s.presence.map fun e => (s.visit e).1 }) (keep : ∀ t c scope, P t → P (report c scope t)) :
    P (presencePass s) := by
  unfold presencePass
  suffices ∀ (es : List PresenceEntry) (t : State), P t → P (es.foldl
      (fun t e => match (s.visit e).2 with | some c => report c (some e.address) t | none => t) t) from this _ _ start
  intro es
  induction es with
  | nil => exact fun _ h => h
  | cons e es ih =>
    refine fun t h => ih _ ?_
    dsimp only
    split
    · exact keep _ _ _ h
    · exact h

theorem State.Law.presencePass (h : s.Law) : (presencePass s).Law := by
  obtain ⟨-, -, -, missed⟩ := h.table
  refine presencePass_induction s (h.setPresence ?_ fun e he => ?_) fun t c scope k => k.reported c scope
  · rw [List.map_map]
    exact List.map_congr_left fun e _ => s.visit_address e
  · obtain ⟨x, hx, rfl⟩ := List.mem_map.1 he
    exact h.visit_missedLaw (missed x hx)

theorem presencePass_standing (s : State) : (presencePass s).standing = s.standing :=
  presencePass_induction (P := fun t => t.standing = s.standing) s rfl fun _ _ _ eq => eq

theorem State.Law.sweepTo (h : s.Law) (awake : s.Awake) (phase : SweepPhase) : (sweepTo phase s).Law :=
  h.settles (.sweepTo phase s) awake

theorem execPresencePass_law (h : s.Law) : LeadsTo (execPresencePass s) State.Law := by
  refine leadsTo_ite (fun due => ?_) h
  have awake := h.awake_of_phase fun idle => by simp [idle] at due
  exact h.presencePass.sweepTo (awake.of_standing (presencePass_standing s)) _

theorem State.Law.computeTemperature (h : s.Law) {z : Nat} (present : (s.record z).present = true) :
    (computeTemperature z s).Law := by
  obtain ⟨low, high⟩ := State.isZone_of_present present
  have sound := h.sound_withReadings h.active_valid low high (h.zone_sound z)
  exact h.setZone present sound.level sound.range ⟨ZoneState.withReadings_frozen _, ZoneState.withReadings_reportPending _⟩

theorem sweepReport_standing (z : Nat) (s : State) : (sweepReport z s).standing = s.standing := by
  unfold sweepReport
  split <;> rfl

theorem execZoneTemperatureComputation_law (h : s.Law) : LeadsTo (execZoneTemperatureComputation s) State.Law := by
  refine leadsTo_next ?_
  split
  · next after phase =>
    have awake := h.awake_of_phase (by simp [phase])
    split
    · split
      · next z next =>
        obtain ⟨-, -, present, -⟩ := nextZone_eq_some.1 next
        have computed := h.computeTemperature present
        exact (computed.sweepReport (z := z) present).sweepTo (awake.of_standing (sweepReport_standing z _)) _
      · exact h.settles (.settleSweep s) awake
    · exact h
  · exact h

theorem Bank.Valid.of_staging (h : s.Law) (past : s.staging ≠ .empty) (past' : s.staging ≠ .editing) : s.staged.Valid := by
  obtain ⟨-, -, valid, -⟩ := h.plan
  exact valid past past'

theorem execShadowTemperatureComputation_law (h : s.Law) : LeadsTo (execShadowTemperatureComputation s) State.Law := by
  refine leadsTo_next ?_
  split
  · next after phase =>
    have awake := h.awake_of_phase (by simp [phase])
    split
    · next due =>
      have rehearses : s.staging = .rehearsing := by
        simp only [Bool.and_eq_true, decide_eq_true_eq] at due
        exact due.2
      split
      · next z next =>
        obtain ⟨-, -, present, -⟩ := nextZone_eq_some.1 next
        obtain ⟨low, high⟩ := Bank.isZone_of_present present
        have valid := Bank.Valid.of_staging h (by simp [rehearses]) (by simp [rehearses])
        exact (h.setShadow rehearses (h.sound_withReadings valid low high (h.shadow_sound z))).sweepTo awake _
      · exact h.settles (.settleSweep s) awake
    · exact h
  · exact h

theorem State.Law.refreshZone (h : s.Law) {z : Nat} (present : (s.record z).present = true) : (refreshZone z s).Law := by
  obtain ⟨level, range, -⟩ := h.zones z
  have cleared := h.setZone (v := { s.zone z with outputIncomplete := false }) present level range ⟨rfl, rfl⟩
  have issued := cleared.normalIssue (z := z) present
  exact issued.damperIssue (by rw [State.record_eq_of_standing (normalIssue_standing z _)]; exact present)

@[simp] theorem refreshZone_standing (z : Nat) (s : State) : (refreshZone z s).standing = s.standing := by
  simp [refreshZone]

theorem execRefresh_law (h : s.Law) : LeadsTo (execRefresh s) State.Law := by
  refine leadsTo_next ?_
  split
  · next after phase =>
    have awake := h.awake_of_phase (by simp [phase])
    split
    · split
      · next z next =>
        obtain ⟨-, -, needs, -⟩ := nextZone_eq_some.1 next
        simp only [State.needsRefresh, Bool.and_eq_true] at needs
        exact (h.refreshZone needs.1.1).sweepTo (awake.of_standing (refreshZone_standing z s)) _
      · exact h.settles (.settleSweep s) awake
    · exact h
  · exact h

end

end Sys2Proof.Machine
end

/-! # The laws across requests and staging -/

section
namespace Sys2Proof.Machine

section
variable {s : State}

/-! ## Answered requests -/

/-- A management command leaves the state, or the answer to a refusal, or the answer to its decision once the common tests are passed. -/
theorem manage_leadsTo {P : State → Prop} {code : Nat} {anyDestination duringLoad : Bool} {decision : List Byte → State → Verdict}
    (same : P s)
    (refused : ∀ r x, s.takeable = some r → P (replyTo r (byte code) (refuse x { s with slot := none })))
    (decided : ∀ r, s.takeable = some r → screenRequest r anyDestination duringLoad { s with slot := none } = none →
      P (replyTo r (byte code) (decision r.body.tail { s with slot := none }))) :
    LeadsTo (manage code anyDestination duringLoad decision s) P := by
  refine leadsTo_next ?_
  split
  · next r taken =>
    dsimp only
    split
    · split
      · exact refused r _ taken
      · next passes => exact decided r taken passes
    · exact same
  · exact same

/-- A verdict that keeps the laws and leaves the reply queue to its reply. -/
structure Verdict.Keeps (v : Verdict) (s : State) : Prop where
  law : v.state.Law
  replies : v.state.uplink.replies = s.uplink.replies

theorem Verdict.Keeps.refuse (h : s.Law) (x : Result) : (refuse x s).Keeps s := ⟨h, rfl⟩

theorem Verdict.Keeps.replyTo {v : Verdict} (h : v.Keeps s) (room : s.uplink.replies.length < 8) (r : Request) (code : Byte) :
    (replyTo r code v).Law :=
  h.law.offerReply _ (by rw [h.replies]; exact room)

theorem State.Law.slotEmptied (h : s.Law) : ({ s with slot := none } : State).Law := { h with }

/-- The store load is over once a request that must wait for its end passes the common tests. -/
theorem loaded_of_screenRequest {r : Request} {anyDestination : Bool}
    (passes : screenRequest r anyDestination false s = none) : s.loading = false := by
  unfold screenRequest at passes
  split at passes
  · cases passes
  · split at passes
    · cases passes
    · split at passes
      · cases passes
      · next k => simpa using k

theorem State.room_of_takeable {r : Request} (taken : s.takeable = some r) :
    s.resetLow = false ∧ s.uplink.replies.length < 8 := by
  obtain ⟨running, -, room⟩ := State.takeable_eq_some.1 taken
  exact ⟨running, room⟩

/-- A request answered outside the store load keeps every law, when its decision does. -/
theorem manage_law {code : Nat} {anyDestination : Bool} {decision : List Byte → State → Verdict} (h : s.Law)
    (decided : ∀ args t, t.Law → t.Awake → (decision args t).Keeps t) :
    LeadsTo (manage code anyDestination false decision s) State.Law :=
  manage_leadsTo h
    (fun r x taken => (Verdict.Keeps.refuse h.slotEmptied x).replyTo (State.room_of_takeable taken).2 r _)
    fun r taken passes =>
      have ⟨running, room⟩ := State.room_of_takeable taken
      (decided _ _ h.slotEmptied ⟨running, loaded_of_screenRequest passes⟩).replyTo room r _

/-- A request that reads the device keeps every law. -/
theorem manage_law_of_reads {code : Nat} {anyDestination duringLoad : Bool} {decision : List Byte → State → Verdict} (h : s.Law)
    (reads : ∀ args t, (decision args t).state = t) :
    LeadsTo (manage code anyDestination duringLoad decision s) State.Law :=
  manage_leadsTo h
    (fun r x taken => (Verdict.Keeps.refuse h.slotEmptied x).replyTo (State.room_of_takeable taken).2 r _)
    fun r taken _ =>
      Verdict.Keeps.replyTo (s := { s with slot := none }) ⟨by rw [reads]; exact h.slotEmptied, by rw [reads]⟩
        (State.room_of_takeable taken).2 r _

theorem execIdentify_law (h : s.Law) : LeadsTo (execIdentify s) State.Law := manage_law_of_reads h fun _ _ => rfl
theorem execReadStatus_law (h : s.Law) : LeadsTo (execReadStatus s) State.Law := manage_law_of_reads h fun _ _ => rfl

theorem readTable_state (table start count : Nat) (s : State) : (readTable table start count s).state = s := by
  unfold readTable
  split
  · rfl
  · split
    · split <;> rfl
    · rfl

theorem execReadTable_law (h : s.Law) : LeadsTo (execReadTable s) State.Law :=
  manage_law_of_reads h fun args t => by
    split
    · exact readTable_state ..
    · rfl

theorem execUnknownRequestName_law (h : s.Law) : LeadsTo (execUnknownRequestName s) State.Law := by
  refine leadsTo_next ?_
  split
  · next r taken =>
    obtain ⟨-, room⟩ := State.room_of_takeable taken
    dsimp only
    split
    · split
      · exact h
      · exact (Verdict.Keeps.refuse h.slotEmptied _).replyTo room r _
    · have drawn : ({ s with slot := none, freeCount := s.freeCount + 1 } : State).Law := { h with }
      exact (Verdict.Keeps.refuse drawn _).replyTo room r _
  · exact h

/-! ## What stands in the reply queue -/

theorem offerCommand_replies (n : Nat) (c : CommandEntry) (s : State) :
    (offerCommand n c s).uplink.replies = s.uplink.replies := by
  obtain ⟨q, -, eq⟩ | ⟨-, eq⟩ := offerCommand_cases n c s <;> rw [eq]
  · rfl
  · exact report_replies _ _ s

@[simp] theorem offerCommands_replies (cs : List (Nat × CommandEntry)) (s : State) :
    (offerCommands cs s).uplink.replies = s.uplink.replies :=
  offerCommands_induction (P := fun t => t.uplink.replies = s.uplink.replies) cs s rfl fun t c _ eq =>
    (offerCommand_replies c.1 c.2 t).trans eq

@[simp] theorem normalIssue_replies (z : Nat) (s : State) : (normalIssue z s).uplink.replies = s.uplink.replies :=
  offerCommands_replies _ s

@[simp] theorem damperIssue_replies (z : Nat) (s : State) : (damperIssue z s).uplink.replies = s.uplink.replies := by
  obtain ⟨-, eq⟩ | ⟨p, -, eq⟩ := damperIssue_cases z s <;> rw [eq]
  exact offerCommands_replies _ s

@[simp] theorem zoneAction_replies (z : Nat) (after : ZoneState) (s : State) :
    (zoneAction z after s).uplink.replies = s.uplink.replies := by
  unfold zoneAction
  obtain eq | eq := reportOnChange_cases (s.zone z).occupancy z (normalIssue z (s.setZone z after)) <;> rw [eq]
  · exact normalIssue_replies z _
  · exact normalIssue_replies z _

theorem State.Settles.replies {t : State} (h : s.Settles t) : t.uplink.replies = s.uplink.replies :=
  (congrArg (fun v : State => v.uplink.replies) h.frame :)

/-! ## Zone actions -/

/-- A zone action that is not refused is at a present zone (R74). -/
theorem zoneRefusal_eq_none_iff {z : Nat} :
    zoneRefusal z s = none ↔ s.staging ≠ .cutting ∧ (s.record z).present = true := by
  unfold zoneRefusal
  split
  · simp_all
  · split
    · next cutting out =>
      simp only [reduceCtorEq, false_iff, not_and]
      intro _ present
      have := State.isZone_of_present present
      simp only [present, Bool.true_eq_false, or_false] at out
      omega
    · next cutting inside => simp_all

theorem Verdict.Keeps.accept {t : State} (law : t.Law) (replies : t.uplink.replies = s.uplink.replies) (clamped : Bool) :
    (accept clamped t).Keeps s := ⟨law, replies⟩

theorem zoneSetLevel_keeps (h : s.Law) (z requested : Nat) : (zoneSetLevel z requested s).Keeps s := by
  unfold zoneSetLevel
  split
  · exact .refuse h _
  · next fine =>
    obtain ⟨-, present⟩ := zoneRefusal_eq_none_iff.1 fine
    have after := (h.zone_sound z).setLevel (h.record_inRange z) ((s.record z).clampLevel requested)
    exact .accept (h.zoneAction present after.level after.range ((s.zone z).sameMarks_setLevel _ _)) (zoneAction_replies ..) _

theorem zoneForce_keeps (h : s.Law) (z requested : Nat) : (zoneForce z requested s).Keeps s := by
  unfold zoneForce
  split
  · exact .refuse h _
  · next fine =>
    obtain ⟨-, present⟩ := zoneRefusal_eq_none_iff.1 fine
    split
    · have after := (h.zone_sound z).forceOccupied (h.record_inRange z)
      exact .accept (h.zoneAction present after.level after.range ((s.zone z).sameMarks_forceOccupied _)) (zoneAction_replies ..) _
    · split
      · have after := (h.zone_sound z).forceVacant
        exact .accept (h.zoneAction present after.level after.range (s.zone z).sameMarks_forceVacant) (zoneAction_replies ..) _
      · exact .refuse h _

theorem zoneSetDamper_keeps (h : s.Law) (z requested : Nat) : (zoneSetDamper z requested s).Keeps s := by
  unfold zoneSetDamper
  split
  · exact .refuse h _
  · next fine =>
    obtain ⟨-, present⟩ := zoneRefusal_eq_none_iff.1 fine
    obtain ⟨level, ⟨timer, hold, grace, temperature, status, count, spread, -⟩, -⟩ := h.zones z
    have placed := h.setZone (v := { s.zone z with damper := some (min requested 1000) }) present level
      ⟨timer, hold, grace, temperature, status, count, spread, fun p hp => by
        obtain rfl := Option.some.inj hp
        exact min_le_right _ _⟩ ⟨rfl, rfl⟩
    exact ⟨placed.damperIssue (z := z) present, damperIssue_replies ..⟩

theorem execZoneSetLevel_law (h : s.Law) : LeadsTo (execZoneSetLevel s) State.Law :=
  manage_law h fun args t h _ => by
    split
    · exact zoneSetLevel_keeps h _ _
    · exact .refuse h _

theorem execZoneForce_law (h : s.Law) : LeadsTo (execZoneForce s) State.Law :=
  manage_law h fun args t h _ => by
    split
    · exact zoneForce_keeps h _ _
    · exact .refuse h _

theorem execZoneSetDamper_law (h : s.Law) : LeadsTo (execZoneSetDamper s) State.Law :=
  manage_law h fun args t h _ => by
    split
    · exact zoneSetDamper_keeps h _ _
    · exact .refuse h _

/-! ## Flushes and clears -/

theorem execFlushReadings_law (h : s.Law) : LeadsTo (execFlushReadings s) State.Law :=
  manage_law h fun _ t h awake => by
    split
    · exact .refuse h _
    · have emptied : ({ t with cache := [] } : State).Law := h.setCache awake .nil fun _ he => nomatch he
      exact ⟨emptied, rfl⟩

/-- A write of the Notice Unit's records that keeps their laws. -/
theorem State.Law.setNotices (h : s.Law) {v : Vector NoticeState 21}
    (lawful : ∀ i, (nth v .clear i).counter ≤ 65535 ∧ ((nth v .clear i).pending = true → (nth v .clear i).occurrence = true)) :
    ({ s with notices := v } : State).Law := by
  obtain ⟨queue, down, discards, -⟩ := h.uplink
  exact h.ran rfl h.segments ⟨queue, down, discards, fun c => lawful _⟩ h.zones h.shadow (fun _ => rfl) rfl (fun _ => rfl) h.table
    h.cache h.report h.trace h.number h.load

/-- The records of all numbers keep the law of those of the conditions. -/
theorem State.Law.notices (h : s.Law) (i : Nat) :
    (nth s.notices .clear i).counter ≤ 65535
      ∧ ((nth s.notices .clear i).pending = true → (nth s.notices .clear i).occurrence = true) := by
  obtain ⟨-, -, -, notice⟩ := h.uplink
  obtain _ | k := i
  · exact ⟨Nat.zero_le _, nofun⟩
  · by_cases inside : k < 21
    · have code : (allConditions[k]'inside).code = k := by
        revert k
        decide
      have := notice (allConditions[k]'inside)
      rwa [State.notice, code] at this
    · rw [nth_of_lt _ _ (by omega)]
      exact ⟨Nat.zero_le _, nofun⟩

/-- A map of the Notice Unit's records that keeps each in its law. -/
theorem State.Law.mapNotices (h : s.Law) {f : Nat → NoticeState → NoticeState} (fixed : ∀ i, f i .clear = .clear)
    (keeps : ∀ i (n : NoticeState), n.counter ≤ 65535 ∧ (n.pending = true → n.occurrence = true) →
      (f i n).counter ≤ 65535 ∧ ((f i n).pending = true → (f i n).occurrence = true)) :
    ({ s with notices := mapNumbered s.notices f } : State).Law :=
  h.setNotices fun i => by
    rw [nth_mapNumbered_of_fixed s.notices f .clear i fun _ => fixed i]
    exact keeps i _ (h.notices i)

theorem clearPending_keeps (h : s.Law) (codes : List Nat) : (clearPending codes s).Keeps s := by
  unfold clearPending
  split
  · exact .refuse h _
  · have cleared : (clearPendingFlags codes s).Law := h.mapNotices (fun i => ite_self _) fun i n k => by
      split
      · exact ⟨k.1, nofun⟩
      · exact k
    exact ⟨cleared, rfl⟩

theorem execClearPending_law (h : s.Law) : LeadsTo (execClearPending s) State.Law :=
  manage_law h fun _ _ h _ => clearPending_keeps h _

theorem execClearOccurrences_law (h : s.Law) : LeadsTo (execClearOccurrences s) State.Law :=
  manage_law h fun _ t h _ => by
    have cleared : ({ t with notices := mapNumbered t.notices fun _ n => n.clearOccurrence } : State).Law :=
      h.mapNotices (fun _ => rfl) fun _ n k => by
        unfold NoticeState.clearOccurrence
        split
        · exact k
        · next still => exact ⟨Nat.zero_le _, fun waits => absurd waits still⟩
    exact ⟨cleared, rfl⟩

end

end Sys2Proof.Machine
end

/-! # The laws across edits, validation and rehearsal -/

section
namespace Sys2Proof.Machine

section
variable {s : State}

/-! ## Leaving a staging state -/

/-- The state a change of the staging state writes before the sweep is settled. -/
def State.left (s : State) (next : StagingState) : State :=
  { s with
    staging := next
    shadow := if s.staging = .rehearsing then Vector.replicate 255 .idle else s.shadow
    engine := s.engineLeft }

theorem leaveTo_settles (next : StagingState) (s : State) : (s.left next).Settles (leaveTo next s) := by
  obtain ⟨still, eq⟩ | ⟨rehearses, eq⟩ := leaveTo_cases next s <;> rw [eq]
  · simp only [State.left, State.engineLeft, if_neg still]
    exact .refl _
  · simp only [State.left, State.engineLeft, if_pos rehearses]
    exact .settleSweep _

theorem State.Law.left_shadow (h : s.Law) (next : StagingState) : (s.left next).shadow = Vector.replicate 255 .idle := by
  simp only [State.left]
  split
  · rfl
  · next still => exact h.shadow.2 still

theorem State.engineLeft_gateOpen (s : State) : s.engineLeft.gateOpen = s.engine.gateOpen := by
  unfold State.engineLeft; split <;> rfl

theorem State.engineLeft_traceCount (s : State) : s.engineLeft.traceCount = s.engine.traceCount := by
  unfold State.engineLeft; split <;> rfl

/-- What the settling of a sweep does is the same beside other plans, results and zones. -/
theorem State.Settles.beside {t : State} (k : s.Settles t) (staged : Bank) (result : ValidationResult) :
    ({ s with staged, result } : State).Settles { t with staged, result } := by
  obtain ⟨frame, uplink, number, deferred⟩ := k
  exact ⟨by rw [frame], uplink, number, deferred⟩

/-- The shadow table of idle records keeps its laws. -/
theorem State.shadowLaw_of_idle (idle : s.shadow = Vector.replicate 255 .idle) : s.ShadowLaw :=
  ⟨fun z => by
    rw [State.shadowZone, idle, nth_replicate]
    exact ⟨idle_level _, idle_inRange⟩, fun _ => idle⟩

/-- The laws after a change outside CUTTING of staging state, staged bank, result and MAINT, with the shadow table that goes with
it. -/
theorem State.Law.restage (h : s.Law) (awake : s.Awake) (free : s.staging ≠ .cutting) (m : Bool)
    {next : StagingState} (free' : next ≠ .cutting) {b : Bank} {r : ValidationResult} {shadow : Vector ZoneState 255} {e : Engine} (stored : b.Stored)
    (valid : next ≠ .empty → next ≠ .editing → b.Valid)
    (pin : next = .validated ∨ next = .rehearsing → r.reliance = false → pinTest s.active b = none)
    (reliance : next = .validated ∨ next = .rehearsing → r.reliance = true → m = true)
    (shaded : ({ s with staging := next, staged := b, shadow } : State).ShadowLaw)
    (gate : e.gateOpen = s.engine.gateOpen) (trace : e.traceCount ≤ 254) :
    ({ s with maint := m, staging := next, staged := b, result := r, shadow, engine := e } : State).Law := by
  obtain ⟨segments, uplink, held, down⟩ := h.queue
  obtain ⟨level, -, -, -⟩ := h.level
  obtain ⟨range, -, -⟩ := h.range
  obtain ⟨active, -, -, image⟩ := h.plan
  obtain ⟨settings, imageSettings, burst, -⟩ := h.settings
  obtain ⟨before, -⟩ := h.cutover
  obtain ⟨noWalk, isOpen, none, thawed⟩ := before free
  obtain ⟨shadeLaw, dark⟩ := shaded
  have noComputed : s.walk.computed = [] := by rw [noWalk]; rfl
  exact
    { queue := ⟨segments, uplink, held, down⟩
      command := h.command
      level := ⟨level, fun z => (shadeLaw z).1, by rw [noComputed]; exact fun _ hc => (nomatch hc), dark⟩
      range := ⟨range, fun z => (shadeLaw z).2, by rw [noComputed]; exact fun _ hc => nomatch hc⟩
      idle := h.idle
      plan := ⟨active, stored, valid, image⟩
      store := h.store
      generation := h.generation
      pin := fun past => pin (by simpa [free'] using past)
      reliance := reliance
      cutover := ⟨fun _ => ⟨noWalk, gate.trans isOpen, none, thawed⟩, fun cutting => absurd cutting free'⟩
      table := h.table
      cache := h.cache
      report := h.report
      settings := ⟨settings, imageSettings, burst, trace⟩
      count := h.count
      load := State.Awake.load awake }

/-- A change of the staging state outside CUTTING, with another staged bank and result, keeps every law. -/
theorem State.Law.leaveTo (h : s.Law) (awake : s.Awake) (free : s.staging ≠ .cutting) (m : Bool) {next : StagingState}
    (free' : next ≠ .cutting) (still : next ≠ .rehearsing) {b : Bank} {r : ValidationResult} (stored : b.Stored)
    (valid : next ≠ .empty → next ≠ .editing → b.Valid)
    (pin : next = .validated → r.reliance = false → pinTest s.active b = none)
    (reliance : next = .validated → r.reliance = true → m = true) :
    ({ leaveTo next { s with maint := m } with staged := b, result := r } : State).Law :=
  have trace : s.engineLeft.traceCount ≤ 254 := by rw [s.engineLeft_traceCount]; exact h.trace
  have base : ({ ({ s with maint := m } : State).left next with staged := b, result := r } : State).Law :=
    h.restage awake free m free' stored valid (fun past => pin (past.resolve_right still))
      (fun past => reliance (past.resolve_right still)) (State.shadowLaw_of_idle (h.left_shadow next)) s.engineLeft_gateOpen trace
  base.settles ((leaveTo_settles next { s with maint := m }).beside b r) awake

theorem leaveTo_replies (next : StagingState) (s : State) : (leaveTo next s).uplink.replies = s.uplink.replies :=
  (leaveTo_settles next s).replies

theorem leaveTo_staged (next : StagingState) (s : State) : (leaveTo next s).staged = s.staged :=
  (congrArg State.staged (leaveTo_settles next s).frame :)

theorem leaveTo_active (next : StagingState) (s : State) : (leaveTo next s).active = s.active :=
  (congrArg State.active (leaveTo_settles next s).frame :)

theorem leaveTo_result (next : StagingState) (s : State) : (leaveTo next s).result = s.result :=
  (congrArg State.result (leaveTo_settles next s).frame :)

/-! ## Edits -/

theorem edit_keeps (h : s.Law) (awake : s.Awake) (free : s.staging ≠ .cutting) {change : Bank → Bank}
    (stored : (change s.staged).Stored) (clamped : Bool) : (accept clamped (edit change s)).Keeps s := by
  refine ⟨?_, leaveTo_replies .editing s⟩
  have eq : edit change s = { leaveTo .editing s with staged := change s.staged, result := .cleared } := by
    rw [← leaveTo_staged .editing s]; rfl
  show (edit change s).Law
  rw [eq]
  exact h.leaveTo awake free s.maint (by decide) (by decide) stored (fun _ past => absurd rfl past) nofun nofun

/-- Edits are refused in CUTTING. -/
theorem editRefusal_eq_none {x : StagingState} (h : editRefusal x = none) : x ≠ .cutting := by
  rintro rfl; cases h

theorem clamp_bounds {a b : Nat} (h : a ≤ b) (n : Nat) : a ≤ clamp a b n ∧ clamp a b n ≤ b := by
  unfold clamp; omega

/-- A stored window lies in the ranges of Table 3-1. -/
theorem storeWindow_inRange {bytes : List Byte} {w : Window} {changed : Bool} (h : storeWindow bytes = some (w, changed)) :
    w.InRange := by
  unfold storeWindow at h
  split at h
  · next l1 l0 h1 h0 seg zone _ trim weight att =>
    obtain ⟨rfl, -⟩ := Prod.mk.inj (Option.some.inj h)
    have low := clamp_bounds (a := 1) (b := 4000) (by decide) (number l1 l0)
    have high := clamp_bounds (a := 1) (b := 4000) (by decide) (number h1 h0)
    have segment := clamp_bounds (a := 1) (b := 4) (by decide) seg.toNat
    have trim := clamp_bounds (a := 50) (b := 100) (by decide) trim.toNat
    have weight := clamp_bounds (a := 1) (b := 15) (by decide) weight.toNat
    have zone_le : zone.toNat ≤ 255 := Nat.le_of_lt_succ zone.isLt
    exact ⟨low.1, le_max_left _ _, max_le low.2 high.2, segment.1, segment.2, zone_le, trim.1, trim.2, weight.1, weight.2⟩
  · cases h

/-- A stored zone record lies in the ranges of Table 4-1. -/
theorem storeZone_inRange {bytes : List Byte} {r : ZoneRecord} {changed : Bool} (h : storeZone bytes = some (r, changed)) :
    r.InRange := by
  unfold storeZone at h
  split at h
  · obtain ⟨rfl, -⟩ := Prod.mk.inj (Option.some.inj h)
    exact ⟨clamp_bounds (by decide) _, clamp_bounds (by decide) _, clamp_bounds (by decide) _, clamp_bounds (by decide) _,
      (clamp_bounds (by decide) _).2, (clamp_bounds (by decide) _).2, clamp_bounds (by decide) _, clamp_bounds (by decide) _,
      (clamp_bounds (by decide) _).2, (clamp_bounds (by decide) _).2, (clamp_bounds (by decide) _).2⟩
  · cases h

/-- What storing gives each record, it gives all; as many are stored as came. -/
theorem storeAll_eq_some {α : Type} {store : List Byte → Option (α × Bool)} {P : α → Prop}
    (each : ∀ bytes a changed, store bytes = some (a, changed) → P a) {rs : List (List Byte)} {as : List α} {changed : Bool}
    (h : storeAll store rs = some (as, changed)) : as.length = rs.length ∧ ∀ a ∈ as, P a := by
  induction rs generalizing as changed with
  | nil =>
    obtain ⟨rfl, -⟩ := Prod.mk.inj (Option.some.inj h)
    exact ⟨rfl, fun _ ha => nomatch ha⟩
  | cons r rs ih =>
    unfold storeAll at h
    split at h
    · next a x as' others first later =>
      obtain ⟨rfl, -⟩ := Prod.mk.inj (Option.some.inj h)
      obtain ⟨length, all⟩ := ih later
      refine ⟨by simp [length], fun b hb => ?_⟩
      obtain rfl | hb := List.mem_cons.1 hb
      · exact each _ _ _ first
      · exact all b hb
    · cases h

@[simp] theorem length_records (size n : Nat) (bytes : List Byte) : (records size n bytes).length = n := by
  induction n generalizing bytes with
  | zero => rfl
  | succ n ih => simp [records, ih]

theorem Bank.Stored.writeWindows {b : Bank} (h : b.Stored) {i : Nat} {ws : List Window} (inRange : ∀ w ∈ ws, w.InRange)
    (inside : i ≤ b.windows.length) (fits : i + ws.length ≤ 512) :
    ({ b with windows := writeWindows i ws b.windows } : Bank).Stored := by
  obtain ⟨short, all, zones⟩ := h
  refine ⟨?_, fun w hw => ?_, zones⟩
  · simp only [Machine.writeWindows, List.length_append, List.length_take, List.length_drop]
    omega
  · simp only [Machine.writeWindows, List.mem_append] at hw
    obtain (hw | hw) | hw := hw
    · exact all w (List.mem_of_mem_take hw)
    · exact inRange w hw
    · exact all w (List.mem_of_mem_drop hw)

theorem Bank.Stored.insertAt {b : Bank} (h : b.Stored) {i : Nat} {w : Window} (inRange : w.InRange) (room : b.windows.length < 512) :
    ({ b with windows := insertAt i w b.windows } : Bank).Stored := by
  obtain ⟨-, all, zones⟩ := h
  refine ⟨?_, fun v hv => ?_, zones⟩
  · simp only [Machine.insertAt, List.length_append, List.length_cons, List.length_take, List.length_drop]
    omega
  · simp only [Machine.insertAt, List.mem_append, List.mem_cons] at hv
    obtain hv | rfl | hv := hv
    · exact all v (List.mem_of_mem_take hv)
    · exact inRange
    · exact all v (List.mem_of_mem_drop hv)

theorem Bank.Stored.eraseIdx {b : Bank} (h : b.Stored) (i : Nat) :
    ({ b with windows := b.windows.eraseIdx i } : Bank).Stored := by
  obtain ⟨short, all, zones⟩ := h
  exact ⟨(List.length_eraseIdx_le _ _).trans short, fun w hw => all w (List.mem_of_mem_eraseIdx hw), zones⟩

theorem Bank.Stored.putZone {b : Bank} (h : b.Stored) (i : Nat) {r : ZoneRecord} (inRange : r.InRange) :
    ({ b with zones := put b.zones i r } : Bank).Stored := by
  obtain ⟨short, all, zones⟩ := h
  refine ⟨short, all, fun z => ?_⟩
  rw [Bank.zone_put]
  split
  · exact inRange
  · exact zones z

theorem Bank.Stored.writeRecords {b : Bank} (h : b.Stored) {rs : List ZoneRecord} (inRange : ∀ r ∈ rs, r.InRange) (i : Nat) :
    ({ b with zones := writeRecords b.zones i rs } : Bank).Stored := by
  induction rs generalizing b i with
  | nil => exact h
  | cons r rs ih =>
    exact ih (h.putZone i (inRange r List.mem_cons_self)) (fun x hx => inRange x (List.mem_cons_of_mem _ hx)) (i + 1)

theorem Bank.Stored.withClassifier {b : Bank} (h : b.Stored) (c : Vector ClassifierEntry 32) :
    ({ b with classifier := c } : Bank).Stored := h

theorem ZoneRecord.cleared_inRange : ZoneRecord.cleared.InRange := (ZoneRecord.check_iff _).1 (by decide)

theorem writeStaged_keeps (h : s.Law) (awake : s.Awake) (table i : Nat) (body : List Byte) :
    (writeStaged table i body s).Keeps s := by
  have stored := h.staged_stored
  unfold writeStaged
  split
  · exact .refuse h _
  · next passes =>
    have free := editRefusal_eq_none passes
    split
    · exact .refuse h _
    · dsimp only
      split
      · exact .refuse h _
      · split
        · split
          · exact .refuse h _
          · next inside =>
            split
            · exact .refuse h _
            · next fits =>
              split
              · next ws clamped all =>
                obtain ⟨length, inRange⟩ := storeAll_eq_some (P := Window.InRange) (fun _ _ _ k => storeWindow_inRange k) all
                rw [length_records] at length
                exact edit_keeps h awake free (stored.writeWindows inRange (by omega) (by omega)) _
              · exact .refuse h _
        · split
          · split
            · exact .refuse h _
            · split
              · next rs clamped all =>
                obtain ⟨-, inRange⟩ := storeAll_eq_some (P := ZoneRecord.InRange) (fun _ _ _ k => storeZone_inRange k) all
                exact edit_keeps h awake free (stored.writeRecords inRange i) _
              · exact .refuse h _
          · split
            · exact .refuse h _
            · split
              · exact edit_keeps h awake free (stored.withClassifier _) _
              · exact .refuse h _

theorem execWriteStaged_law (h : s.Law) : LeadsTo (execWriteStaged s) State.Law :=
  manage_law h fun args t h awake => by
    split
    · exact writeStaged_keeps h awake _ _ _
    · exact .refuse h _

theorem insertWindow_keeps (h : s.Law) (awake : s.Awake) (table i : Nat) (body : List Byte) :
    (insertWindow table i body s).Keeps s := by
  unfold insertWindow
  split
  · exact .refuse h _
  · next passes =>
    split
    · exact .refuse h _
    · split
      · exact .refuse h _
      · split
        · exact .refuse h _
        · next room =>
          split
          · next w clamped store =>
            exact edit_keeps h awake (editRefusal_eq_none passes)
              (h.staged_stored.insertAt (storeWindow_inRange store) (by omega)) _
          · exact .refuse h _

theorem execInsertWindow_law (h : s.Law) : LeadsTo (execInsertWindow s) State.Law :=
  manage_law h fun args t h awake => by
    split
    · exact insertWindow_keeps h awake _ _ _
    · exact .refuse h _

theorem deleteAt_keeps (h : s.Law) (awake : s.Awake) (free : s.staging ≠ .cutting) (i : Nat) : (deleteAt i s).Keeps s := by
  unfold deleteAt
  split
  · exact .refuse h _
  · exact edit_keeps h awake free (h.staged_stored.eraseIdx i) _

theorem execDeleteWindow_law (h : s.Law) : LeadsTo (execDeleteWindow s) State.Law :=
  manage_law h fun args t h awake => by
    split
    · unfold deleteWindow
      split
      · exact .refuse h _
      · next passes =>
        split
        · exact .refuse h _
        · exact deleteAt_keeps h awake (editRefusal_eq_none passes) _
    · exact .refuse h _

theorem clearEntry_keeps (h : s.Law) (awake : s.Awake) (table i : Nat) : (clearEntry table i s).Keeps s := by
  have stored := h.staged_stored
  unfold clearEntry
  split
  · exact .refuse h _
  · next passes =>
    have free := editRefusal_eq_none passes
    split
    · exact deleteAt_keeps h awake free _
    · split
      · split
        · exact .refuse h _
        · exact edit_keeps h awake free (stored.putZone i ZoneRecord.cleared_inRange) _
      · split
        · split
          · exact .refuse h _
          · exact edit_keeps h awake free (stored.withClassifier _) _
        · exact .refuse h _

theorem execClearEntry_law (h : s.Law) : LeadsTo (execClearEntry s) State.Law :=
  manage_law h fun args t h awake => by
    split
    · exact clearEntry_keeps h awake _ _
    · exact .refuse h _

theorem Bank.empty_stored : Bank.empty.Stored :=
  ⟨Nat.zero_le _, fun _ hw => (nomatch hw), fun z => by rw [Bank.empty_zone]; exact ZoneRecord.cleared_inRange⟩

theorem replaceStaged_keeps (h : s.Law) (awake : s.Awake) {next : StagingState} (early : next = .empty ∨ next = .editing)
    {bank : State → Bank} (stored : (bank (leaveTo next s)).Stored) : (replaceStaged next bank s).Keeps s := by
  unfold replaceStaged
  split
  · exact .refuse h _
  · next free =>
    refine ⟨?_, leaveTo_replies next s⟩
    obtain rfl | rfl := early
    · exact h.leaveTo awake free s.maint (by decide) (by decide) stored (fun past => absurd rfl past) (fun k => by cases k)
        (fun k => by cases k)
    · exact h.leaveTo awake free s.maint (by decide) (by decide) stored (fun _ past => absurd rfl past) nofun nofun

theorem execCopyActive_law (h : s.Law) : LeadsTo (execCopyActive s) State.Law :=
  manage_law h fun _ t h awake =>
    replaceStaged_keeps h awake (.inr rfl) (by rw [leaveTo_active]; exact h.active_stored)

theorem execDiscardStaged_law (h : s.Law) : LeadsTo (execDiscardStaged s) State.Law :=
  manage_law h fun _ _ h awake => replaceStaged_keeps h awake (.inl rfl) Bank.empty_stored

/-! ## Validation -/

/-- A validation that does not fail is of a bank that passes the first eight checks, and the pin test unless MAINT is relied on. -/
theorem validationOf_passed {active staged : Bank} {maint : Bool} (h : (validationOf active staged maint).outcome ≠ .failed) :
    firstFailure staged = none
      ∧ ((validationOf active staged maint).reliance = false → pinTest active staged = none)
      ∧ ((validationOf active staged maint).reliance = true → maint = true) := by
  cases first : firstFailure staged with
  | some x => exact absurd (by simp [validationOf, first]) h
  | none =>
    cases pins : pinTest active staged with
    | none => simp [validationOf, first, pins]
    | some z =>
      cases maint with
      | false => exact absurd (by simp [validationOf, first, pins]) h
      | true => simp [validationOf, first, pins]

/-- Outside rehearsal and CUTTING a change of staging state and result alone keeps every law. -/
theorem State.Law.restagedTo (h : s.Law) (awake : s.Awake) (free : s.staging ≠ .cutting) (still : s.staging ≠ .rehearsing)
    {next : StagingState} (free' : next ≠ .cutting) (still' : next ≠ .rehearsing) {r : ValidationResult}
    (valid : next ≠ .empty → next ≠ .editing → s.staged.Valid)
    (pin : next = .validated → r.reliance = false → pinTest s.active s.staged = none)
    (reliance : next = .validated → r.reliance = true → s.maint = true) :
    ({ s with staging := next, result := r } : State).Law :=
  h.restage awake free s.maint free' h.staged_stored valid (fun past => pin (past.resolve_right still'))
    (fun past => reliance (past.resolve_right still')) (State.shadowLaw_of_idle (h.shadow.2 still)) rfl h.trace

theorem validate_keeps (h : s.Law) (awake : s.Awake) : (validate s).Keeps s := by
  unfold validate
  split
  · exact .refuse h _
  · next free =>
    split
    · exact .refuse h _
    · next early =>
      have early : s.staging = .empty ∨ s.staging = .editing := by
        by_contra k
        rw [not_or] at k
        exact early k
      have still : s.staging ≠ .rehearsing := by rintro k; simp [k] at early
      dsimp only
      split
      · have rejected : ({ s with staging := .editing, result := validationOf s.active s.staged s.maint } : State).Law :=
          h.restagedTo awake free still (by decide) (by decide) (fun _ past => absurd rfl past) nofun nofun
        exact ⟨rejected.reported _ _, report_replies _ _ _⟩
      · next passed =>
        obtain ⟨passes, pins, relies⟩ := validationOf_passed passed
        exact ⟨h.restagedTo awake free still (by decide) (by decide) (fun _ _ => ⟨h.staged_stored, passes⟩) (fun _ => pins)
          (fun _ => relies), rfl⟩

theorem execValidate_law (h : s.Law) : LeadsTo (execValidate s) State.Law := manage_law h fun _ _ h awake => validate_keeps h awake

theorem withdraw_eq (s : State) :
    withdraw s =
      report .stageRejected none
        { leaveTo .editing s with
          staged := s.staged
          result := { outcome := .failed, check := some .pinConflict, index := s.result.index, reliance := false } } := by
  rw [← leaveTo_staged .editing s]; rfl

/-- The withdrawal of a validation outside CUTTING keeps every law, whatever MAINT has become. -/
theorem State.Law.withdraw (h : s.Law) (awake : s.Awake) (free : s.staging ≠ .cutting) (m : Bool) :
    (withdraw { s with maint := m }).Law := by
  rw [withdraw_eq]
  exact (h.leaveTo awake free m (by decide) (by decide) h.staged_stored (fun _ past => absurd rfl past) nofun nofun).reported _ _

theorem execMaintChange_law (h : s.Law) (active : Bool) : LeadsTo (execMaintChange active s) State.Law := by
  refine leadsTo_next ?_
  split
  · next k =>
    obtain ⟨-, -, past, -⟩ := k
    have free : s.staging ≠ .cutting := by rintro k; simp [k] at past
    exact h.withdraw (h.awake_of_staging (by rintro k; simp [k] at past)) free active
  · next k =>
    refine { h with reliance := fun past relies => ?_ }
    have held := h.reliance past relies
    by_contra off
    exact k ⟨held, by simpa using off, past, relies⟩

/-! ## Rehearsal -/

theorem rehearseStart_keeps (h : s.Law) (awake : s.Awake) : (rehearseStart s).Keeps s := by
  unfold rehearseStart
  split
  · exact .refuse h _
  · next free =>
    split
    · exact .refuse h _
    · next k =>
      have validated : s.staging = .validated := by simpa using k
      have valid := Bank.Valid.of_staging h (by simp [validated]) (by simp [validated])
      refine ⟨?_, rfl⟩
      refine h.restage awake free s.maint (by decide) h.staged_stored (fun _ _ => valid) (fun _ => h.pin (.inl validated))
        (fun _ => h.reliance (.inl validated)) ⟨fun z => ?_, fun still => absurd rfl still⟩ rfl (Nat.zero_le _)
      have seeded : nth (mapNumbered s.shadow fun z _ => s.seed z) .idle z = s.seed z :=
        nth_mapNumbered_of_fixed s.shadow _ .idle z fun out => by
          rw [State.seed, State.stagedRecord, Bank.zone_outside _ out]; rfl
      rw [State.shadowZone, seeded]
      have sound := h.seed_sound valid z
      exact ⟨sound.level, sound.range⟩

theorem execRehearseStart_law (h : s.Law) : LeadsTo (execRehearseStart s) State.Law :=
  manage_law h fun _ _ h awake => rehearseStart_keeps h awake

theorem rehearseStop_keeps (h : s.Law) (awake : s.Awake) : (rehearseStop s).Keeps s := by
  unfold rehearseStop
  split
  · exact .refuse h _
  · next free =>
    split
    · exact .refuse h _
    · next k =>
      have rehearses : s.staging = .rehearsing := by simpa using k
      have valid := Bank.Valid.of_staging h (by simp [rehearses]) (by simp [rehearses])
      have stopped := h.leaveTo awake free s.maint (next := .validated) (r := s.result) (by decide) (by decide) h.staged_stored
        (fun _ _ => valid) (fun _ => h.pin (.inr (.inl rehearses))) (fun _ => h.reliance (.inr rehearses))
      have eq : leaveTo .validated s = { leaveTo .validated s with staged := s.staged, result := s.result } := by
        rw [← leaveTo_staged .validated s, ← leaveTo_result .validated s]
      exact ⟨eq ▸ stopped, leaveTo_replies _ s⟩

theorem execRehearseStop_law (h : s.Law) : LeadsTo (execRehearseStop s) State.Law :=
  manage_law h fun _ _ h awake => rehearseStop_keeps h awake

end

end Sys2Proof.Machine
end

/-! # The laws across settings, store writes and the walk -/

section
namespace Sys2Proof.Machine

section
variable {s : State}

/-! ## Store writes (R161) -/

/-- A store write of the plan in force and other settings, outside CUTTING, keeps every law: its image does not agree until it ends. -/
theorem State.Law.startWrite (h : s.Law) (awake : s.Awake) (free : s.staging ≠ .cutting) {c : Settings} (inRange : c.InRange) :
    (startWrite { s with settings := c }).Law := by
  obtain ⟨active, staged, valid, -⟩ := h.plan
  obtain ⟨generation, -⟩ := h.generation
  obtain ⟨before, -⟩ := h.cutover
  obtain ⟨-, -, burst, trace⟩ := h.settings
  obtain ⟨receive, discards, notice, number, generationCount, -⟩ := h.count
  have unread (p : Prop) (agrees : (Machine.startWrite { s with settings := c }).store.image.agrees = true) : p := by
    simp [Machine.startWrite] at agrees
  exact
    { h with
      plan := ⟨active, staged, valid, unread _⟩
      store := ⟨fun _ => ⟨Image.partial_agrees _, rfl⟩, nofun, fun _ => ⟨rfl, rfl, rfl⟩⟩
      generation := ⟨generation, unread _⟩
      cutover := ⟨before, fun cutting => absurd cutting free⟩
      settings := ⟨inRange, unread _, burst, trace⟩
      count := ⟨receive, discards, notice, number, generationCount, unread _⟩
      load := State.Awake.load awake }

/-- The end of a store write keeps every law: a success makes the image agree, which holds what is in force (R161). -/
theorem State.Law.written (h : s.Law) (writing : s.writing = true) (success : Bool) :
    ({ s with store := s.store.written success } : State).Law := by
  obtain ⟨active, staged, valid, image⟩ := h.plan
  obtain ⟨during, -, same⟩ := h.store
  obtain ⟨disagrees, -⟩ := during writing
  obtain ⟨bank, generation, settings⟩ := same (.inl writing)
  obtain ⟨generationLaw, -⟩ := h.generation
  obtain ⟨before, cutting⟩ := h.cutover
  obtain ⟨inRange, -, burst, trace⟩ := h.settings
  obtain ⟨receive, discards, notice, number, generationCount, -⟩ := h.count
  have awake : s.Awake := by
    obtain awake | quiet := s.awake_or_quiet
    · exact awake
    · obtain ⟨-, -, -, -, -, -, -, -, -, -, -, idle, -⟩ := h.load quiet
      rw [State.writing, idle] at writing; cases writing
  have stopped : s.staging = .cutting → False := fun k => by
    obtain ⟨-, -, idle, -⟩ := cutting k
    rw [State.writing, idle] at writing; cases writing
  cases success with
  | true =>
    exact
      { h with
        plan := ⟨active, staged, valid, fun _ => show s.store.image.bank.Valid by rw [bank]; exact active⟩
        store := ⟨nofun, fun _ => Image.whole_agrees _, fun _ => ⟨bank, generation, settings⟩⟩
        generation := ⟨generationLaw, fun _ zero => bank.trans (generationLaw (generation.symm.trans zero))⟩
        cutover := ⟨before, fun k => (stopped k).elim⟩
        settings := ⟨inRange, fun _ => show s.store.image.settings.InRange by rw [settings]; exact inRange, burst, trace⟩
        count := ⟨receive, discards, notice, number, generationCount,
          fun _ => show s.store.image.generation ≤ 65535 by rw [generation]; exact generationCount⟩
        load := State.Awake.load awake }
  | false =>
    have unread (p : Prop) (agrees : s.store.image.agrees = true) : p := by rw [disagrees] at agrees; cases agrees
    exact
      { h with
        plan := ⟨active, staged, valid, unread _⟩
        store := ⟨nofun, nofun, by rintro (k | k) <;> cases k⟩
        generation := ⟨generationLaw, unread _⟩
        cutover := ⟨before, fun k => (stopped k).elim⟩
        settings := ⟨inRange, unread _, burst, trace⟩
        count := ⟨receive, discards, notice, number, generationCount, unread _⟩
        load := State.Awake.load awake }

theorem execStoreWriteCompletion_law (h : s.Law) (success : Bool) : LeadsTo (execStoreWriteCompletion success s) State.Law := by
  refine leadsTo_ite (fun due => ?_) h
  simp only [Bool.and_eq_true] at due
  have written := h.written due.2 success
  dsimp only
  split
  · exact written
  · exact written.reported _ _

/-! ## Settings -/

/-- A store write goes beside the settling of a sweep. -/
theorem State.Settles.startWrite {t : State} (k : s.Settles t) : (startWrite s).Settles (startWrite t) := by
  obtain ⟨frame, uplink, number, deferred⟩ := k
  exact ⟨by rw [frame]; rfl, uplink, number, deferred⟩

/-- A store write goes beside offers and reports. -/
theorem State.Offers.startWrite {t : State} (k : s.Offers t) : (startWrite s).Offers (startWrite t) := by
  obtain ⟨frame, segments, uplink, zone⟩ := k
  exact ⟨by rw [frame]; rfl, segments, uplink, zone⟩

theorem State.Settles.retimeSweep (s : State) : s.Settles (retimeSweep s) := by
  unfold Machine.retimeSweep
  split
  · exact .expireSweepTimer s
  · exact .refl s

theorem State.Offers.fallSilent (n : Nat) (s : State) : s.Offers (fallSilent n s) :=
  have silenced : s.Offers (s.setSegment n { s.segment n with line := .down }) :=
    ⟨rfl, fun h => h.setSegment n ((h n).withLine .down), id, fun _ => .inl rfl⟩
  silenced.trans (.report _ _ _)

theorem State.Offers.retimeSilence (s : State) : s.Offers (retimeSilence s) := by
  unfold Machine.retimeSilence
  suffices ∀ (ns : List Nat) (t : State), s.Offers t →
      s.Offers (ns.foldl (fun t n => if t.silenceDue n then Machine.fallSilent n t else t) t) from this _ s (.refl s)
  intro ns
  induction ns with
  | nil => exact fun _ k => k
  | cons n ns ih =>
    refine fun t k => ih _ ?_
    dsimp only
    split
    · exact k.trans (.fallSilent n t)
    · exact k

theorem Segment.forceChange_lawful {g : Segment} (h : g.Lawful) (was now : Bool) : (g.forceChange was now).Lawful := by
  unfold Segment.forceChange
  split
  · exact h
  · split
    · split
      · exact h.holdOff
      · exact h
    · split
      · exact h.letGo
      · exact h

theorem Segment.forceChange_sameOutput (g : Segment) (was now : Bool) : (g.forceChange was now).SameOutput g := by
  unfold Segment.forceChange
  split
  · exact ⟨rfl, rfl⟩
  · split
    · split <;> exact ⟨rfl, rfl⟩
    · split <;> exact ⟨rfl, rfl⟩

/-- A setting stored keeps every law once its store write has started. -/
theorem applySetting_law (h : s.Law) (awake : s.Awake) (free : s.staging ≠ .cutting) {setting which value : Nat} {t : State}
    {clamped : Bool} (applied : applySetting setting which value s = some (t, clamped)) :
    (startWrite t).Law ∧ t.uplink.replies = s.uplink.replies := by
  have ⟨interval, silent, stale, silence, burst, prescale⟩ := h.settings_inRange
  have writes {c : Settings} (inRange : c.InRange) := h.startWrite awake free inRange
  unfold applySetting at applied
  split at applied
  · obtain ⟨rfl, -⟩ := Prod.mk.inj (Option.some.inj applied)
    have settles := State.Settles.retimeSweep
      { s with settings := { s.settings with supervisionInterval := clamp 10 600 value } }
    have base := writes (c := { s.settings with supervisionInterval := clamp 10 600 value })
      ⟨clamp_bounds (by decide) _, silent, stale, silence, burst, prescale⟩
    exact ⟨base.settles settles.startWrite awake, settles.replies⟩
  · obtain ⟨rfl, -⟩ := Prod.mk.inj (Option.some.inj applied)
    exact ⟨writes ⟨interval, clamp_bounds (by decide) _, stale, silence, burst, prescale⟩, rfl⟩
  · obtain ⟨rfl, -⟩ := Prod.mk.inj (Option.some.inj applied)
    exact ⟨writes ⟨interval, silent, clamp_bounds (by decide) _, silence, burst, prescale⟩, rfl⟩
  · obtain ⟨rfl, -⟩ := Prod.mk.inj (Option.some.inj applied)
    have offers := State.Offers.retimeSilence
      { s with settings := { s.settings with silenceLimit := clamp 2 60 value } }
    have base := writes (c := { s.settings with silenceLimit := clamp 2 60 value })
      ⟨interval, silent, stale, clamp_bounds (by decide) _, burst, prescale⟩
    exact ⟨base.offers offers.startWrite awake, (congrArg (fun v : State => v.uplink.replies) offers.frame :)⟩
  · obtain ⟨rfl, -⟩ := Prod.mk.inj (Option.some.inj applied)
    exact ⟨writes ⟨interval, silent, stale, silence, clamp_bounds (by decide) _, prescale⟩, rfl⟩
  · obtain ⟨rfl, -⟩ := Prod.mk.inj (Option.some.inj applied)
    exact ⟨writes ⟨interval, silent, stale, silence, burst, clamp_bounds (by decide) _⟩, rfl⟩
  · split at applied
    · cases applied
    · obtain ⟨rfl, -⟩ := Prod.mk.inj (Option.some.inj applied)
      exact ⟨writes ⟨interval, silent, stale, silence, burst, prescale⟩, rfl⟩
  · split at applied
    · cases applied
    · obtain ⟨rfl, -⟩ := Prod.mk.inj (Option.some.inj applied)
      have forced := h.setPort which
        (Segment.forceChange_lawful (h.segment which) (s.forcedHold which) (value != 0)) (Segment.forceChange_sameOutput _ _ _)
      exact ⟨forced.startWrite awake free
        (c := { s.settings with forcedHold := put s.settings.forcedHold which (value != 0) })
        ⟨interval, silent, stale, silence, burst, prescale⟩, rfl⟩
  · cases applied

theorem setParameter_keeps (h : s.Law) (awake : s.Awake) (setting which value : Nat) :
    (setParameter setting which value s).Keeps s := by
  unfold setParameter
  split
  · exact .refuse h _
  · split
    · exact .refuse h _
    · next free =>
      split
      · next applied =>
        obtain ⟨law, replies⟩ := applySetting_law h awake free applied
        exact ⟨law, replies⟩
      · exact .refuse h _

theorem execSetParameter_law (h : s.Law) : LeadsTo (execSetParameter s) State.Law :=
  manage_law h fun args t h awake => by
    split
    · exact setParameter_keeps h awake _ _ _
    · exact .refuse h _

theorem setClosedFloor_keeps (h : s.Law) (awake : s.Awake) (asked : Nat) : (setClosedFloor asked s).Keeps s := by
  have ⟨interval, silent, stale, silence, burst, prescale⟩ := h.settings_inRange
  unfold setClosedFloor
  split
  · exact .refuse h _
  · split
    · exact .refuse h _
    · next free =>
      split
      · exact .refuse h _
      · split
        · exact .refuse h _
        · exact ⟨h.startWrite awake free (c := { s.settings with closedFloor := asked == 1 })
            ⟨interval, silent, stale, silence, burst, prescale⟩, rfl⟩

theorem execSetClosedFloor_law (h : s.Law) : LeadsTo (execSetClosedFloor s) State.Law :=
  manage_law h fun args t h awake => by
    split
    · exact setClosedFloor_keeps h awake _
    · exact .refuse h _

/-! ## The start of a cutover (R146, R147) -/

/-- The frozen flag of a zone in the frozen set (R147). -/
theorem freeze_zone (s : State) (z : Nat) :
    nth (freeze s) .idle z =
      if ((s.record z).present && !pinned s.active.windows z) = true then { s.zone z with frozen := true } else s.zone z :=
  nth_mapNumbered_of_fixed s.zones _ .idle z fun out => by
    rw [State.record, Bank.zone_outside _ out]; rfl

/-- The state a CUTOVER is accepted with, before the sweep is settled. -/
def State.cut (s : State) (revert : Bool) : State :=
  { s with
    staging := .cutting
    shadow := if s.staging = .rehearsing then Vector.replicate 255 .idle else s.shadow
    engine := { s.engineLeft with gateOpen := false }
    zones := freeze s
    walk := { phase := .waiting, cursor := 0, revert := revert, computed := [], held := [] } }

theorem acceptCutover_settles (revert : Bool) (s : State) : (s.cut revert).Settles (acceptCutover revert s) := by
  have left := leaveTo_settles .cutting s
  obtain ⟨frame, uplink, number, deferred⟩ := left
  refine State.Settles.trans (t :=
    { leaveTo .cutting s with
      engine := { (leaveTo .cutting s).engine with gateOpen := false }
      zones := freeze (leaveTo .cutting s)
      walk := { phase := .waiting, cursor := 0, revert := revert, computed := [], held := [] } })
    ⟨?_, uplink, number, deferred⟩ (.settleSweep _)
  rw [frame]; rfl

theorem State.Law.cut (h : s.Law) (awake : s.Awake) (free : s.staging ≠ .cutting) (early : s.staging ≠ .empty)
    (early' : s.staging ≠ .editing) (idle : s.writing = false) (revert : Bool) {r : ValidationResult}
    (pin : r.reliance = false → pinTest s.active s.staged = none) : (({ s with result := r } : State).cut revert).Law := by
  have valid := Bank.Valid.of_staging h early early'
  obtain ⟨segments, uplink, -, down⟩ := h.queue
  obtain ⟨active, stored, -, image⟩ := h.plan
  obtain ⟨settings, imageSettings, burst, -⟩ := h.settings
  obtain ⟨before, -⟩ := h.cutover
  obtain ⟨-, -, -, thawed⟩ := before free
  have zone : ∀ z, (({ s with result := r } : State).cut revert).zone z = _ := freeze_zone { s with result := r }
  obtain ⟨shaded, dark⟩ := State.shadowLaw_of_idle (s := ({ s with result := r } : State).cut revert) (h.left_shadow .cutting)
  have trace : s.engineLeft.traceCount ≤ 254 := by rw [s.engineLeft_traceCount]; exact h.trace
  exact
    { queue := ⟨segments, uplink, Nat.zero_le _, down⟩
      command := h.command
      level := ⟨fun z => by rw [zone]; split <;> exact (h.zones z).level, fun z => (shaded z).1, fun _ hc => (nomatch hc), dark⟩
      range := ⟨fun z => by rw [zone]; split <;> exact (h.zones z).range, fun z => (shaded z).2, fun _ hc => (nomatch hc)⟩
      idle := fun z absent => by
        have absent' : (s.record z).present = false := absent
        rw [zone, if_neg (by simp [State.record] at absent' ⊢; simp [absent'])]
        exact h.idle z absent
      plan := ⟨active, stored, fun _ _ => valid, image⟩
      store := h.store
      generation := h.generation
      pin := fun _ => pin
      reliance := by rintro (k | k) <;> cases k
      cutover := ⟨fun k => absurd rfl k, fun _ => ⟨⟨rfl, rfl⟩, rfl, idle, fun z => by
        rw [zone]
        split
        · next k => exact k.symm
        · next k => exact (thawed z).trans (Bool.eq_false_of_not_eq_true k).symm⟩⟩
      table := h.table
      cache := h.cache
      report := fun z => by rw [zone]; split <;> exact h.report z
      settings := ⟨settings, imageSettings, burst, trace⟩
      count := h.count
      load := State.Awake.load awake }

theorem acceptCutover_keeps (h : s.Law) (awake : s.Awake) (free : s.staging ≠ .cutting) (early : s.staging ≠ .empty)
    (early' : s.staging ≠ .editing) (idle : s.writing = false) (revert : Bool) {r : ValidationResult}
    (pin : r.reliance = false → pinTest s.active s.staged = none) :
    (accept false (acceptCutover revert { s with result := r })).Keeps s :=
  have settles := acceptCutover_settles revert { s with result := r }
  ⟨(h.cut awake free early early' idle revert pin).settles settles awake, settles.replies⟩

theorem cutover_keeps (h : s.Law) (awake : s.Awake) : (cutover s).Keeps s := by
  unfold cutover
  split
  · exact .refuse h _
  · next free =>
    split
    · exact .refuse h _
    · next past =>
      rw [not_or] at past
      obtain ⟨early, early'⟩ := past
      split
      · exact .refuse h _
      · next idle =>
        have idle : s.writing = false := by simpa using idle
        split
        · split
          · split
            · exact acceptCutover_keeps h awake free early early' idle true nofun
            · exact ⟨h, rfl⟩
          · next passes => exact acceptCutover_keeps h awake free early early' idle true fun _ => passes
        · next k =>
          refine acceptCutover_keeps h awake free early early' idle false (r := s.result) (h.pin ?_)
          cases staging : s.staging <;> simp_all

theorem execCutover_law (h : s.Law) : LeadsTo (execCutover s) State.Law := manage_law h fun _ _ h awake => cutover_keeps h awake

/-! ## The walk (R149) -/

/-- The zones a walk visits are of the 255. -/
theorem State.walks_inside {z : Nat} (visits : s.walks z = true) : 1 ≤ z ∧ z ≤ 255 := by
  simp only [State.walks, Bool.and_eq_true] at visits
  exact Bank.isZone_of_present visits.1

/-- A step of the walk keeps every law, when the walk it leaves is lawful. -/
theorem State.Law.walked (h : s.Law) (cutting : s.staging = .cutting) {w : Walk} (law : ({ s with walk := w } : State).WalkLaw)
    (held : w.held = s.walk.held) (computed : ∀ c ∈ w.computed, c.2.Sound (s.stagedRecord c.1)) :
    ({ s with walk := w } : State).Law := by
  obtain ⟨segments, uplink, few, down⟩ := h.queue
  obtain ⟨level, shadeLevel, -, dark⟩ := h.level
  obtain ⟨range, shadeRange, -⟩ := h.range
  obtain ⟨-, during⟩ := h.cutover
  obtain ⟨-, closed, idle, ice⟩ := during cutting
  exact
    { h with
      queue := ⟨segments, uplink, by rw [held]; exact few, down⟩
      level := ⟨level, shadeLevel, fun c hc => (computed c hc).level, dark⟩
      range := ⟨range, shadeRange, fun c hc => (computed c hc).range⟩
      cutover := ⟨fun free => absurd cutting free, fun _ => ⟨law, closed, idle, ice⟩⟩ }

theorem State.Law.walkLaw (h : s.Law) (cutting : s.staging = .cutting) : s.WalkLaw := by
  obtain ⟨-, during⟩ := h.cutover
  obtain ⟨law, -⟩ := during cutting
  exact law

theorem execWalkBegin_law (h : s.Law) : LeadsTo (execWalkBegin s) State.Law := by
  refine leadsTo_ite (fun due => ?_) h
  simp only [State.walkDue, Bool.and_eq_true, decide_eq_true_eq] at due
  obtain ⟨⟨⟨⟨-, cutting⟩, waiting⟩, -⟩, some⟩ := due
  obtain ⟨z, first⟩ := Option.isSome_iff_exists.1 some
  obtain ⟨-, -, visits, before⟩ := nextZone_eq_some.1 first
  have law := h.walkLaw cutting
  rw [State.WalkLaw, waiting] at law
  obtain ⟨-, empty⟩ := law
  rw [first]
  refine h.walked cutting ⟨visits, fun y => ?_⟩ rfl (by rw [empty]; exact fun _ hc => (nomatch hc))
  show (s.walk.stateOf y).isSome = (s.walks y && decide (y < z))
  have none : s.walk.stateOf y = none := by rw [Walk.stateOf, empty]; rfl
  rw [none]
  by_cases below : y < z
  · obtain rfl | pos := Nat.eq_zero_or_pos y
    · rw [s.walks_outside (.inl rfl)]; rfl
    · rw [before y pos below]; rfl
  · simp [below]

/-- The computed state of the zone a step has just dealt with is the first of the list. -/
theorem stateOf_cons (w : Walk) (z y : Nat) (v : ZoneState) (phase : WalkPhase) (cursor : Nat) :
    ({ w with phase, cursor, computed := (z, v) :: w.computed } : Walk).stateOf y = if y = z then some v else w.stateOf y := by
  unfold Walk.stateOf
  by_cases same : y = z
  · simp [same]
  · simp [same, Ne.symm same]

theorem State.Law.completeStep (h : s.Law) (cutting : s.staging = .cutting) (stepping : s.walk.phase = .stepping) :
    (completeStep s).Law := by
  have law := h.walkLaw cutting
  rw [State.WalkLaw, stepping] at law
  obtain ⟨visits, known⟩ := law
  obtain ⟨low, high⟩ := State.walks_inside visits
  have sound := h.computedState_sound (Bank.Valid.of_staging h (by simp [cutting]) (by simp [cutting])) low high
  obtain ⟨-, -, computedLevel, -⟩ := h.level
  obtain ⟨-, -, computedRange⟩ := h.range
  have computed : ∀ c ∈ (s.walk.cursor, s.computedState s.walk.cursor) :: s.walk.computed, c.2.Sound (s.stagedRecord c.1) := by
    intro c hc
    obtain rfl | hc := List.mem_cons.1 hc
    · exact sound
    · exact ⟨computedLevel c hc, computedRange c hc⟩
  unfold Machine.completeStep
  dsimp only
  split
  · next z next =>
    obtain ⟨-, above, visits', between⟩ := nextZone_eq_some.1 next
    refine h.walked cutting ?_ rfl computed
    rw [State.WalkLaw]
    simp only [stepping]
    refine ⟨visits', fun y => ?_⟩
    have eq := stateOf_cons s.walk s.walk.cursor y (s.computedState s.walk.cursor) .stepping z
    rw [← stepping] at eq
    show (({ s.walk with cursor := z, computed := _ } : Walk).stateOf y).isSome = (s.walks y && decide (y < z))
    rw [eq]
    split
    · next same => subst same; simp [visits, above]
    · next other =>
      rw [known y]
      obtain below | above' := Nat.lt_or_gt_of_ne other
      · simp [below, below.trans above]
      · by_cases next : y < z
        · rw [between y above' next]; rfl
        · simp [next, not_lt_of_gt above']
  · next last =>
    have none_after : ∀ y, s.walk.cursor < y → s.walks y = false := fun y above => by
      by_cases inside : y ≤ 255
      · exact nextZone_eq_none.1 last y (by omega) inside above
      · exact s.walks_outside (.inr (by omega))
    refine h.walked cutting ⟨visits, none_after, fun y => ?_⟩ rfl computed
    show (({ s.walk with phase := .finished, computed := _ } : Walk).stateOf y).isSome = s.walks y
    have eq := stateOf_cons s.walk s.walk.cursor y (s.computedState s.walk.cursor) .finished s.walk.cursor
    rw [eq]
    split
    · next same => subst same; simp [visits]
    · next other =>
      rw [known y]
      obtain below | above := Nat.lt_or_gt_of_ne other
      · simp [below]
      · rw [none_after y above]; rfl

theorem execWalkStepCompletion_law (h : s.Law) : LeadsTo (execWalkStepCompletion s) State.Law := by
  refine leadsTo_ite (fun due => ?_) h
  simp only [Bool.and_eq_true, decide_eq_true_eq] at due
  obtain ⟨⟨-, cutting⟩, stepping⟩ := due
  exact h.completeStep cutting stepping

end

end Sys2Proof.Machine
end

/-! # The laws across abort, completion, load and restart -/

section
namespace Sys2Proof.Machine

section
variable {s t : State}

/-! ## Offers beside other changes -/

theorem State.Offers.of_eq (h : t = s) : s.Offers t := h ▸ .refl s

/-- What offers do is the same beside another walk, engine and sweep. -/
theorem State.Offers.beside (k : s.Offers t) (walk : Walk) (engine : Engine) (sweep : Sweep) :
    ({ s with walk, engine, sweep } : State).Offers { t with walk, engine, sweep } := by
  obtain ⟨frame, segments, uplink, zone⟩ := k
  exact ⟨by rw [frame], segments, uplink, zone⟩

theorem State.Offers.deliver (s : State) (d : FieldDown) : s.Offers (deliver s d) := by
  obtain ⟨n, -, room, eq⟩ | eq := deliver_cases s d <;> rw [eq]
  · refine ⟨rfl, fun h => h.setSegment n ?_, id, fun _ => .inl rfl⟩
    have ⟨⟨ingress, commands, _, keys⟩, command, burst, count⟩ := h n
    exact ⟨⟨ingress, commands, by simpa using room, keys⟩, command, burst, count⟩
  · exact .report _ _ s

theorem State.Offers.releaseHeld (s : State) :
    ({ s with walk := { s.walk with held := [] } } : State).Offers (releaseHeld s) :=
  releaseHeld_induction s (.refl _) fun t d k => k.trans (.deliver t d)

/-- What offers do for one zone after another, each present. -/
theorem State.Offers.foldl {f : Nat → State → State} (s : State) (zs : List Nat) (stored : s.active.Stored) (zones : s.ZonesLaw)
    (present : ∀ z ∈ zs, (s.record z).present = true)
    (step : ∀ (z : Nat) (t : State), t.active.Stored → t.ZonesLaw → (t.record z).present = true → t.Offers (f z t)) :
    s.Offers (zs.foldl (fun t z => f z t) s) := by
  induction zs generalizing s with
  | nil => exact .refl s
  | cons z zs ih =>
    have first := step z s stored zones (present z List.mem_cons_self)
    exact first.trans (ih (f z s) (by rw [first.active]; exact stored) (first.zonesLaw zones) fun y hy => by
      rw [first.record]; exact present y (List.mem_cons_of_mem _ hy))

theorem State.Offers.issuePresent (stored : s.active.Stored) (zones : s.ZonesLaw) : s.Offers (issuePresent s) :=
  .foldl s _ stored zones (fun _ hz => by simpa using (List.mem_filter.1 hz).2) fun _ _ stored zones present =>
    .normalIssue stored zones present

/-! ## The stop of a walk (R154) -/

/-- MAINT, which the validation under the walk relied on, has become inactive during it (R154, step 3). -/
def State.relianceLost (s : State) : Bool := !s.walk.revert && s.result.reliance && !s.maint

/-- The state the stop of a walk writes, before its reports. -/
def State.stopped (s : State) : State :=
  { s with
    walk := { Walk.none with held := s.walk.held }
    zones := unfreeze s.zones
    staging := if s.walk.revert then .retained else if s.relianceLost then .editing else .validated
    result :=
      if s.relianceLost then
        { outcome := .failed, check := some .pinConflict, index := s.result.index, reliance := false }
      else s.result }

theorem stopWalk_offers (s : State) : s.stopped.Offers (stopWalk s) := by
  unfold stopWalk
  dsimp only
  by_cases lost : s.relianceLost = true
  · have ⟨⟨revert, relied⟩, off⟩ : (s.walk.revert = false ∧ s.result.reliance = true) ∧ s.maint = false := by
      simpa [State.relianceLost] using lost
    rw [if_pos ⟨revert, relied, off⟩, withdraw_eq]
    refine State.Offers.trans (t := report .stageRejected none s.stopped) (.report _ _ _) ?_
    have eq : ∀ u : State, u.staging = .validated → leaveTo .editing u = { u with staging := .editing } := fun u k => by
      rw [leaveTo, if_neg (by simp [k])]
    rw [eq _ (by simp [revert])]
    simp only [State.stopped, revert, lost, Bool.false_eq_true, if_false, if_true]
    exact .report _ _ _
  · rw [if_neg fun k => lost (by simp [State.relianceLost, k])]
    refine State.Offers.trans (t := s.stopped) (.of_eq ?_) ?_
    · rfl
    · simp only [State.stopped, lost, Bool.false_eq_true, if_false]
      exact .report _ _ _

theorem unfreeze_zone (s : State) (z : Nat) : nth (unfreeze s.zones) .idle z = { s.zone z with frozen := false } :=
  nth_mapNumbered_of_fixed s.zones _ .idle z fun _ => rfl

/-- The laws once a walk has stopped, its hold queue is empty, the gate is open and no sweep is deferred. -/
theorem State.Law.stopped (h : s.Law) (cutting : s.staging = .cutting) {e : Engine} {w : Sweep} (gate : e.gateOpen = true)
    (trace : e.traceCount ≤ 254) (deferred : w.deferred = false) (number : w.number ≤ 65535) :
    ({ s.stopped with walk := Walk.none, engine := e, sweep := w } : State).Law := by
  have awake := h.awake_of_staging (by simp [cutting])
  have valid := Bank.Valid.of_staging h (by simp [cutting]) (by simp [cutting])
  obtain ⟨segments, uplink, -, down⟩ := h.queue
  obtain ⟨-, dark⟩ := h.shadow
  obtain ⟨active, stored, -, image⟩ := h.plan
  obtain ⟨settings, imageSettings, burst, -⟩ := h.settings
  obtain ⟨receive, discards, notice, -, generation, imageGeneration⟩ := h.count
  have zone : ∀ z, s.stopped.zone z = { s.zone z with frozen := false } := unfreeze_zone s
  have idle : s.shadow = Vector.replicate 255 .idle := dark (by simp [cutting])
  obtain ⟨shaded, -⟩ := State.shadowLaw_of_idle idle
  have next : s.stopped.staging = .retained ∨ s.stopped.staging = .editing
      ∨ s.stopped.staging = .validated ∧ s.relianceLost = false ∧ s.walk.revert = false := by
    unfold State.stopped
    cases s.walk.revert <;> cases s.relianceLost <;> simp
  have free : s.stopped.staging ≠ .cutting := by obtain k | k | ⟨k, -⟩ := next <;> simp [k]
  exact
    { queue := ⟨segments, uplink, Nat.zero_le _, down⟩
      command := h.command
      level := ⟨fun z => (zone z).symm ▸ (h.zones z).level, fun z => (shaded z).1, fun _ hc => (nomatch hc), fun _ => idle⟩
      range := ⟨fun z => (zone z).symm ▸ (h.zones z).range, fun z => (shaded z).2, fun _ hc => (nomatch hc)⟩
      idle := fun z absent => (zone z).trans (by rw [h.idle z absent]; rfl)
      plan := ⟨active, stored, fun _ _ => valid, image⟩
      store := h.store
      generation := h.generation
      pin := fun past relies => by
        obtain k | k | ⟨k, kept, -⟩ := next
        · simp [k] at past
        · simp [k] at past
        · have result : s.stopped.result = s.result := by simp [State.stopped, kept]
          exact h.pin (.inr (.inr cutting)) (by rw [← result]; exact relies)
      reliance := fun past relies => by
        obtain k | k | ⟨k, kept, revert⟩ := next
        · simp [k] at past
        · simp [k] at past
        · have result : s.stopped.result = s.result := by simp [State.stopped, kept]
          have relied : s.result.reliance = true := by rw [← result]; exact relies
          have active : s.maint = true := by simpa [State.relianceLost, revert, relied] using kept
          exact active
      cutover := ⟨fun _ => ⟨rfl, gate, deferred, fun z => by
        show (s.stopped.zone z).frozen = false
        rw [zone]⟩, fun k => absurd k free⟩
      table := h.table
      cache := h.cache
      report := fun z => by
        show (s.stopped.zone z).reportPending = _
        rw [zone]; exact h.report z
      settings := ⟨settings, imageSettings, burst, trace⟩
      count := ⟨receive, discards, notice, number, generation, imageGeneration⟩
      load := State.Awake.load awake }

/-- The sweep state after the release of a deferred sweep (R168). -/
def Sweep.released (w : Sweep) : Sweep :=
  if w.deferred then
    if w.phase = .idle then { w with deferred := false, phase := .starting }
    else { w with deferred := false, waiting := w.waiting + 1 }
  else w

theorem releaseSweep_eq (s : State) : releaseSweep s = { s with sweep := s.sweep.released } := by
  unfold releaseSweep Sweep.released
  split
  · split <;> rfl
  · rfl

@[simp] theorem Sweep.released_deferred (w : Sweep) : w.released.deferred = false := by
  unfold released
  split
  · split <;> rfl
  · next k => simpa using k

@[simp] theorem Sweep.released_number (w : Sweep) : w.released.number = w.number := by
  unfold released
  split
  · split <;> rfl
  · rfl

/-- What an aborted walk leaves: the stopped walk's state beside its reports and deliveries, the gate open and a deferred sweep
released. -/
theorem abortWalk_offers (s : State) :
    ({ s.stopped with
        walk := Walk.none, engine := { s.engine with gateOpen := true }, sweep := s.sweep.released } : State).Offers
      (abortWalk s) := by
  have stop := stopWalk_offers s
  have held := State.Offers.releaseHeld (stopWalk s)
  have walk : (stopWalk s).walk = { Walk.none with held := s.walk.held } := (congrArg State.walk stop.frame :)
  rw [walk] at held
  have all := (stop.beside Walk.none s.stopped.engine s.stopped.sweep).trans (u := releaseHeld (stopWalk s)) (by
    rw [← stop.engine, ← stop.sweep]; exact held)
  have walk' : (releaseHeld (stopWalk s)).walk = Walk.none := (congrArg State.walk all.frame :)
  have beside := all.beside Walk.none { s.engine with gateOpen := true } s.sweep.released
  have eq : abortWalk s =
      { releaseHeld (stopWalk s) with
        walk := Walk.none, engine := { s.engine with gateOpen := true }, sweep := s.sweep.released } := by
    unfold abortWalk
    dsimp only
    rw [releaseSweep_eq, ← walk', all.engine, all.sweep]
    rfl
  rw [eq]
  exact beside

theorem State.Law.abortWalk (h : s.Law) (cutting : s.staging = .cutting) : (abortWalk s).Law :=
  (h.stopped cutting (e := { s.engine with gateOpen := true }) rfl h.trace (by simp)
    (by rw [Sweep.released_number]; exact h.number)).offers (abortWalk_offers s) (h.awake_of_staging (by simp [cutting]))

theorem execAbortCutover_law (h : s.Law) : LeadsTo (execAbortCutover s) State.Law :=
  manage_law h fun _ t h _ => by
    split
    · next cutting => exact ⟨h.abortWalk cutting, (congrArg (fun v : State => v.uplink.replies) (abortWalk_offers t).frame :)⟩
    · exact .refuse h _

end

end Sys2Proof.Machine
end

/-! # The laws across the completion of a cutover (R156, R157) -/

section
namespace Sys2Proof.Machine

section
variable {s t : State}

/-! ## The presence table of a new list (R163) -/

/-- What an insertion of one entry for each of some addresses leaves: an ascending table of their addresses and those it had. -/
theorem foldl_insert_entries {f : Nat → PresenceEntry} (named : ∀ a, (f a).address = a) (as : List Nat)
    {table : List PresenceEntry} (keyed : (table.map PresenceEntry.address).Pairwise (· < ·)) :
    let filled := as.foldl (fun t a => insertAscending PresenceEntry.address (f a) t) table
    (filled.map PresenceEntry.address).Pairwise (· < ·)
      ∧ (∀ a, a ∈ filled.map PresenceEntry.address ↔ a ∈ as ∨ a ∈ table.map PresenceEntry.address)
      ∧ ∀ e ∈ filled, e ∈ table ∨ ∃ a ∈ as, e = f a := by
  induction as generalizing table with
  | nil => exact ⟨keyed, fun a => by simp, fun e he => .inl he⟩
  | cons b as ih =>
    obtain ⟨keyed', addresses, entries⟩ := ih (insertAscending_ascends (f b) keyed)
    refine ⟨keyed', fun a => ?_, fun e he => ?_⟩
    · rw [List.foldl_cons, addresses]
      simp only [List.mem_map, mem_insertAscending keyed, List.mem_cons]
      constructor
      · rintro (later | ⟨e, rfl | ⟨he, -⟩, rfl⟩)
        · exact .inl (.inr later)
        · exact .inl (.inl (named b))
        · exact .inr ⟨e, he, rfl⟩
      · rintro ((rfl | later) | ⟨e, he, rfl⟩)
        · exact .inr ⟨f a, .inl rfl, named a⟩
        · exact .inl later
        · by_cases same : e.address = (f b).address
          · exact .inr ⟨f b, .inl rfl, same.symm⟩
          · exact .inr ⟨e, .inr ⟨he, same⟩, rfl⟩
    · obtain he | ⟨a, ha, rfl⟩ := entries e he
      · obtain rfl | ⟨he, -⟩ := (mem_insertAscending keyed).1 he
        · exact .inr ⟨b, List.mem_cons_self, rfl⟩
        · exact .inl he
      · exact .inr ⟨a, List.mem_cons_of_mem _ ha, rfl⟩

/-- The entry an address gets in a new presence table: the one it had, or an UNKNOWN one (R163). -/
def presenceOf (old : List PresenceEntry) (a : Nat) : PresenceEntry :=
  (presenceEntry old a).getD { address := a, state := .unknown, missed := 0, heard := false }

theorem presenceOf_address (old : List PresenceEntry) (a : Nat) : (presenceOf old a).address = a := by
  unfold presenceOf
  cases found : presenceEntry old a with
  | none => rfl
  | some e => simpa using List.find?_some found

theorem presenceOf_missedLaw {old : List PresenceEntry} (missed : ∀ e ∈ old, e.MissedLaw) (a : Nat) :
    (presenceOf old a).MissedLaw := by
  unfold presenceOf
  cases found : presenceEntry old a with
  | none => exact ⟨Nat.zero_le _, nofun, fun _ => rfl⟩
  | some e => exact missed e (List.mem_of_find?_eq_some found)

/-- The presence table of a list is keyed, and has one entry for each supervised address and no other (R163). -/
theorem presenceTable_lawful (windows : List Window) {old : List PresenceEntry} (missed : ∀ e ∈ old, e.MissedLaw) :
    ((presenceTable windows old).map PresenceEntry.address).Pairwise (· < ·)
      ∧ (∀ a, a ∈ (presenceTable windows old).map PresenceEntry.address ↔ a ∈ supervisedAddresses windows)
      ∧ ∀ e ∈ presenceTable windows old, e.MissedLaw := by
  obtain ⟨keyed, addresses, entries⟩ :=
    foldl_insert_entries (presenceOf_address old) (supervisedAddresses windows) (table := []) .nil
  refine ⟨keyed, fun a => ?_, fun e he => ?_⟩
  · exact (addresses a).trans (by simp)
  · obtain he | ⟨a, -, rfl⟩ := entries e he
    · cases he
    · exact presenceOf_missedLaw missed a

/-! ## The installed zone states -/

theorem State.Law.installed_lawful (h : s.Law) (z : Nat) : (s.installed z).Lawful (s.stagedRecord z) := by
  have idle := ZoneState.idle_sound (s.stagedRecord z)
  obtain ⟨-, -, computedLevel, -⟩ := h.level
  obtain ⟨-, -, computedRange⟩ := h.range
  unfold State.installed
  split
  · next present =>
    have there (v : ZoneState) (absent : (s.stagedRecord z).present = false) : v = .idle := by
      rw [present] at absent; cases absent
    split
    · obtain ⟨level, range⟩ := (h.zone_sound z).carried (h.stagedRecord_inRange z)
      exact ⟨level, range, there _⟩
    · split
      · next c found =>
        obtain ⟨⟨y, c'⟩, at_z, rfl⟩ := Option.map_eq_some_iff.1 found
        have here : y = z := by simpa using List.find?_some at_z
        have listed := List.mem_of_find?_eq_some at_z
        have level := computedLevel _ listed
        rw [here] at level
        exact ⟨level, computedRange _ listed, there _⟩
      · exact ⟨idle.level, idle.range, there _⟩
  · exact ⟨idle.level, idle.range, fun _ => rfl⟩

theorem State.Law.installed_frozen (s : State) (z : Nat) : (s.installed z).frozen = false := by
  unfold State.installed
  split
  · split
    · rfl
    · split <;> rfl
  · rfl

/-- A computed state waits for every zone the walk visits, once the completion is due (R149). -/
theorem State.Law.computed_of_completionDue (h : s.Law) (due : s.completionDue = true) {z : Nat} (visits : s.walks z = true) :
    (s.walk.stateOf z).isSome = true := by
  simp only [State.completionDue, Bool.and_eq_true, Bool.or_eq_true, decide_eq_true_eq] at due
  obtain ⟨⟨⟨⟨-, cutting⟩, -⟩, -⟩, ended⟩ := due
  have law := h.walkLaw cutting
  rw [State.WalkLaw] at law
  obtain finished | ⟨-, nothing⟩ := ended
  · rw [finished] at law
    obtain ⟨-, -, known⟩ := law
    rw [known, visits]
  · obtain ⟨low, high⟩ := State.walks_inside visits
    have := nextZone_eq_none.1 (Option.isNone_iff_eq_none.1 nothing) z low high low
    rw [visits] at this; cases this

/-- A zone present in the staged table takes its report-pending flag with it (R156). -/
theorem State.Law.installed_reportPending (h : s.Law) (due : s.completionDue = true) {z : Nat}
    (present : (s.stagedRecord z).present = true) : (s.installed z).reportPending = (s.zone z).reportPending := by
  unfold State.installed
  rw [if_pos present]
  split
  · rfl
  · next free =>
    have visits : s.walks z = true := by simp [State.walks, present, free]
    obtain ⟨c, found⟩ := Option.isSome_iff_exists.1 (h.computed_of_completionDue due visits)
    rw [found]

/-! ## The steps of a completion -/

/-- The state after the exchange of the banks and the installation of the zone states, before the level issues of R156 step 2. -/
def State.swapped (s : State) : State :=
  { s with
    active := s.staged, staged := s.active, staging := .retained
    zones := mapNumbered s.zones fun z _ => s.installed z }

theorem State.swapped_zone (s : State) (z : Nat) : s.swapped.zone z = s.installed z :=
  nth_mapNumbered_of_fixed s.zones (fun z _ => s.installed z) .idle z fun out => by
    rw [State.installed, State.stagedRecord, Bank.zone_outside _ out]; rfl

theorem State.Law.swapped_zones (h : s.Law) : s.swapped.ZonesLaw := fun z => by
  rw [s.swapped_zone]; exact h.installed_lawful z

theorem swapAndInstall_offers (h : s.Law) : s.swapped.Offers (swapAndInstall s) :=
  .foldl s.swapped _ h.staged_stored h.swapped_zones
    (fun z hz => by
      obtain ⟨-, raised⟩ := List.mem_filter.1 hz
      simp only [Bool.and_eq_true] at raised
      obtain ⟨⟨present, -⟩, -⟩ := raised
      exact present)
    fun _ _ stored zones present => .normalIssue stored zones present

/-- The state after steps 3 to 8 of R156, before the report of step 7. -/
def State.settled (s : State) : State :=
  { dropReports { s with generation := nextGeneration s.generation } with
    cache := removeMoved s.active.windows s.cache
    presence := presenceTable s.active.windows s.presence
    result := .cleared
    walk := { Walk.none with held := s.walk.held } }

theorem settlePlan_offers (s : State) : s.settled.Offers (settlePlan s) := .report .cutoverDone none s.settled

theorem State.settled_zone (s : State) (z : Nat) :
    s.settled.zone z = if (s.record z).present then s.zone z else { s.zone z with reportPending := false } :=
  nth_mapNumbered_of_fixed s.zones (fun z st => if (s.record z).present then st else { st with reportPending := false }) .idle z
    fun _ => by split <;> rfl

theorem State.UplinkLaw.settled (h : s.UplinkLaw) : s.settled.UplinkLaw := by
  obtain ⟨⟨replies, forwards, traces, reports, notices⟩, rest⟩ := h
  exact ⟨⟨replies, forwards, traces, (List.filter_sublist.map _).nodup reports, notices⟩, rest⟩

/-- Offers go beside the steps 3 to 8 of R156. -/
theorem State.Offers.settled (k : s.Offers t) (segments : s.SegmentsLaw) (uplink : s.UplinkLaw) : s.settled.Offers t.settled where
  frame := by
    have frame := k.frame
    rw [frame]
    rfl
  segments _ := k.segments segments
  uplink _ := (k.uplink uplink).settled
  zone z := by
    rw [s.settled_zone, t.settled_zone, k.record]
    obtain eq | ⟨present, eq⟩ := k.zone z <;> rw [eq]
    · exact .inl rfl
    · exact .inr ⟨present, by rw [if_pos present, if_pos present]⟩

theorem State.ZonesLaw.settled (h : s.ZonesLaw) : s.settled.ZonesLaw := fun z => by
  obtain ⟨level, range, idle⟩ := h z
  rw [s.settled_zone]
  split
  · exact ⟨level, range, idle⟩
  · exact ⟨level, range, fun absent => by rw [idle absent]; rfl⟩

theorem State.Offers.reissueZone {z : Nat} (stored : s.active.Stored) (zones : s.ZonesLaw)
    (present : (s.record z).present = true) : s.Offers (reissueZone z s) := by
  have first := State.Offers.levelIssue (fade := (s.record z).rezoneFade) stored zones present (stored.zone_inRange z).rezoneFade_le
  exact first.trans
    (.damperIssue (by rw [first.active]; exact stored) (first.zonesLaw zones) (by rw [first.record]; exact present))

/-- What stands after a completed cutover, beside the outcome of its issues, reports and deliveries. -/
def State.completed (s : State) : State :=
  { startWrite s.swapped.settled with
    walk := Walk.none, engine := { s.engine with gateOpen := true }, sweep := s.sweep.released }

/-- The cutover up to the re-issue of the walked zones (R156, R157 step 1). -/
def reissued (s : State) : State :=
  (zoneNumbers.filter s.walks).foldl (fun u z => reissueZone z u) (settlePlan (swapAndInstall s))

theorem completeCutover_eq (s : State) :
    completeCutover s =
      let u := releaseHeld (startWrite (reissued s))
      releaseSweep { u with engine := { u.engine with gateOpen := true } } := rfl

theorem reissued_offers (h : s.Law) : s.swapped.settled.Offers (reissued s) := by
  have swap := swapAndInstall_offers h
  have plan := (swap.settled h.segments h.uplink).trans (settlePlan_offers _)
  refine plan.trans (.foldl _ _ ?_ ?_ (fun z hz => ?_) fun _ _ stored zones present => .reissueZone stored zones present)
  · rw [plan.active]; exact h.staged_stored
  · exact plan.zonesLaw h.swapped_zones.settled
  · rw [plan.record]
    have visits : s.walks z = true := (List.mem_filter.1 hz).2
    simp only [State.walks, Bool.and_eq_true] at visits
    exact visits.1

/-- What a completed cutover leaves. -/
theorem completeCutover_offers (h : s.Law) : s.completed.Offers (completeCutover s) := by
  have issued := (reissued_offers h).startWrite
  have held := State.Offers.releaseHeld (startWrite (reissued s))
  have walk : (startWrite (reissued s)).walk = { Walk.none with held := s.walk.held } := (congrArg State.walk issued.frame :)
  rw [walk] at held
  have all := (issued.beside Walk.none (startWrite s.swapped.settled).engine (startWrite s.swapped.settled).sweep).trans
    (u := releaseHeld (startWrite (reissued s))) (by rw [← issued.engine, ← issued.sweep]; exact held)
  have walk' : (releaseHeld (startWrite (reissued s))).walk = Walk.none := (congrArg State.walk all.frame :)
  have eq : completeCutover s =
      { releaseHeld (startWrite (reissued s)) with
        walk := Walk.none, engine := { s.engine with gateOpen := true }, sweep := s.sweep.released } := by
    rw [completeCutover_eq]
    dsimp only
    rw [releaseSweep_eq, ← walk', all.engine, all.sweep]
    rfl
  rw [eq]
  exact all.beside Walk.none { s.engine with gateOpen := true } s.sweep.released

theorem nextGeneration_bounds {g : Nat} : 1 ≤ nextGeneration g ∧ nextGeneration g ≤ 65535 := by
  unfold nextGeneration; split <;> omega

/-- The reports that wait after a completion are those of zones present in the new table (R156 step 4). -/
theorem State.Law.settled_reportLaw (h : s.Law) (due : s.completionDue = true) : s.swapped.settled.ReportLaw := by
  intro z
  have waits : s.swapped.settled.reportWaits z = ((s.stagedRecord z).present && s.reportWaits z) := by
    rw [Bool.eq_iff_iff]
    show ((s.uplink.reports.filter fun r => (s.stagedRecord r.zone).present).any fun x => x.zone == z) = true
      ↔ ((s.stagedRecord z).present && s.uplink.reports.any fun x => x.zone == z) = true
    simp only [List.any_eq_true, List.mem_filter, beq_iff_eq, Bool.and_eq_true]
    constructor
    · rintro ⟨x, ⟨hx, present⟩, rfl⟩; exact ⟨present, x, hx, rfl⟩
    · rintro ⟨present, x, hx, rfl⟩; exact ⟨x, ⟨hx, present⟩, rfl⟩
  rw [waits, State.settled_zone, s.swapped_zone]
  show (if (s.stagedRecord z).present = true then s.installed z else { s.installed z with reportPending := false }).reportPending = _
  split
  · next present => rw [h.installed_reportPending due present, h.report z, present, Bool.true_and]
  · next absent => rw [Bool.eq_false_of_not_eq_true absent, Bool.false_and]

theorem State.Law.completed (h : s.Law) (due : s.completionDue = true) : s.completed.Law := by
  have cutting : s.staging = .cutting := by
    simp only [State.completionDue, Bool.and_eq_true, decide_eq_true_eq] at due
    obtain ⟨⟨⟨⟨-, cutting⟩, -⟩, -⟩, -⟩ := due
    exact cutting
  have awake := h.awake_of_staging (by simp [cutting])
  have valid := Bank.Valid.of_staging h (by simp [cutting]) (by simp [cutting])
  have zones := h.swapped_zones.settled
  obtain ⟨segments, -, -, -⟩ := h.queue
  obtain ⟨uplink, down, discards, notice⟩ := State.UplinkLaw.settled (s := s.swapped) h.uplink
  obtain ⟨-, dark⟩ := h.shadow
  have idle : s.shadow = Vector.replicate 255 .idle := dark (by simp [cutting])
  obtain ⟨shaded, -⟩ := State.shadowLaw_of_idle (s := s.completed) idle
  obtain ⟨inRange, -, burst, trace⟩ := h.settings
  obtain ⟨receive, -, -, number, -, -⟩ := h.count
  obtain ⟨cacheKeyed, -, -, missed⟩ := h.table
  have unread (p : Prop) (agrees : s.completed.store.image.agrees = true) : p := by
    simp [State.completed, Machine.startWrite] at agrees
  exact
    { queue := ⟨segments, uplink, Nat.zero_le _, down⟩
      command := h.command
      level := ⟨fun z => (zones z).level, fun z => (shaded z).1, fun _ hc => (nomatch hc), fun _ => idle⟩
      range := ⟨fun z => (zones z).range, fun z => (shaded z).2, fun _ hc => (nomatch hc)⟩
      idle := fun z => (zones z).idle
      plan := ⟨valid, h.active_stored, fun _ _ => h.active_valid, unread _⟩
      store := ⟨fun _ => ⟨Image.partial_agrees _, rfl⟩, nofun, fun _ => ⟨rfl, rfl, rfl⟩⟩
      generation := ⟨fun zero => by
        have := (nextGeneration_bounds (g := s.generation)).1
        rw [show nextGeneration s.generation = 0 from zero] at this
        exact absurd this (by decide), unread _⟩
      pin := by rintro (k | k | k) <;> cases k
      reliance := by rintro (k | k) <;> cases k
      cutover := ⟨fun _ => ⟨rfl, rfl, Sweep.released_deferred _, fun z => by
        show (s.swapped.settled.zone z).frozen = false
        rw [State.settled_zone, s.swapped_zone]
        split <;> exact State.Law.installed_frozen s z⟩, fun k => by cases k⟩
      table :=
        have ⟨keyed, supervised, missed⟩ := presenceTable_lawful s.staged.windows missed
        ⟨cacheKeyed.sublist (List.filter_sublist.map _), keyed, supervised, missed⟩
      cache := fun e he => by
        obtain ⟨he, stays⟩ := List.mem_filter.1 he
        obtain ⟨-, marked⟩ := h.cache e he
        refine ⟨?_, marked⟩
        split at stays
        · next w listed => exact ⟨w, listed, by simpa using stays⟩
        · cases stays
      report := h.settled_reportLaw due
      settings := ⟨inRange, unread _, burst, trace⟩
      count := ⟨receive, discards, notice, by rw [State.completed, Sweep.released_number]; exact number,
        nextGeneration_bounds.2, unread _⟩
      load := State.Awake.load awake }

theorem execCutoverCompletion_law (h : s.Law) : LeadsTo (execCutoverCompletion s) State.Law := by
  refine leadsTo_ite (fun due => ?_) h
  have completed := h.completed due
  refine completed.offers (completeCutover_offers h) ?_
  refine h.awake_of_staging fun k => ?_
  simp [State.completionDue, k] at due

end

end Sys2Proof.Machine
end

/-! # The laws across resets, and across every step -/

section
namespace Sys2Proof.Machine

section
variable {s t : State}

/-! ## Zones lit (R62) -/

theorem lightZones_zone (s : State) (z : Nat) :
    nth (lightZones s) .idle z = if (s.record z).present then (s.record z).litState else .idle := by
  by_cases inside : 1 ≤ z ∧ z ≤ 255
  · exact nth_mapNumbered s.zones _ ZoneState.idle ZoneState.idle inside.1 inside.2
  · have out : z = 0 ∨ 255 < z := by omega
    rw [State.record, Bank.zone_outside _ out]
    obtain rfl | high := out
    · rfl
    · exact nth_of_lt _ _ high

/-- A table of lit zones keeps the laws of zones under the plan in force, unfrozen and with no report pending. -/
theorem lightZones_lawful (stored : s.active.Stored) (z : Nat) :
    (nth (lightZones s) .idle z).Lawful (s.record z) ∧ (nth (lightZones s) .idle z).SameMarks .idle := by
  rw [lightZones_zone]
  split
  · next present =>
    obtain ⟨level, range⟩ := ZoneState.Sound.litState (stored.zone_inRange z)
    exact ⟨⟨level, range, fun absent => by
      have present' : (s.record z).present = true := present
      rw [State.record] at present'
      rw [State.record, present'] at absent; cases absent⟩, rfl, rfl⟩
  · exact ⟨⟨idle_level _, idle_inRange, fun _ => rfl⟩, rfl, rfl⟩

/-! ## Cold reset (R19) -/

theorem Bank.empty_valid : Bank.empty.Valid := Bank.valid_of_check (by decide +kernel)

theorem Settings.default_inRange : Settings.default.InRange := (Settings.check_iff _).1 (by decide)

theorem Uplink.empty_queueLaw : Uplink.empty.QueueLaw :=
  ⟨Nat.zero_le _, Nat.zero_le _, Nat.zero_le _, List.nodup_nil, List.nodup_nil⟩

/-- The part at its reset values, beside a store image that is lawful when its check agrees and any levels at its pins. -/
theorem State.law_at_reset (low loading maint : Bool) (address : Byte) {i : Image} (image : i.agrees = true → i.Lawful)
    (pending : List Instr) (freeCount : Nat) :
    ({ State.reset with
        resetLow := low, loading := loading, maint := maint, trunkAddress := address
        store := { image := i, status := .invalid, writing := false }
        pending := pending, freeCount := freeCount } : State).Law := by
  have segment (n : Nat) : State.reset.segment n = .afterReset := nth_replicate 4 Segment.afterReset n
  have zone (z : Nat) : State.reset.zone z = .idle := nth_replicate 255 ZoneState.idle z
  have notice (c : Condition) : State.reset.notice c = .clear := nth_replicate 21 NoticeState.clear _
  have reset := Segment.afterReset_lawful
  obtain ⟨shaded, -⟩ := State.shadowLaw_of_idle (s := State.reset) rfl
  exact
    { queue := ⟨fun n => (segment n).symm ▸ reset.queue, Uplink.empty_queueLaw, Nat.zero_le _, fun _ => ⟨rfl, rfl, rfl, rfl⟩⟩
      command := fun n => (segment n).symm ▸ reset.command
      level := ⟨fun z => (zone z).symm ▸ idle_level _, fun z => (shaded z).1, fun _ hc => (nomatch hc), fun _ => rfl⟩
      range := ⟨fun z => (zone z).symm ▸ idle_inRange, fun z => (shaded z).2, fun _ hc => (nomatch hc)⟩
      idle := fun z _ => zone z
      plan := ⟨Bank.empty_valid, Bank.empty_stored, fun past => absurd rfl past, fun agrees => (image agrees).1⟩
      store := ⟨nofun, nofun, by rintro (k | k) <;> cases k⟩
      generation := ⟨fun _ => rfl, fun agrees => (image agrees).2.2.2⟩
      pin := by rintro (k | k | k) <;> cases k
      reliance := by rintro (k | k) <;> cases k
      cutover := ⟨fun _ => ⟨rfl, rfl, rfl, fun z => (congrArg ZoneState.frozen (zone z) :)⟩, fun k => by cases k⟩
      table := ⟨.nil, .nil, fun a => by simp [State.reset, supervisedAddresses, Bank.empty], fun _ he => (nomatch he)⟩
      cache := fun _ he => (nomatch he)
      report := fun z => (congrArg ZoneState.reportPending (zone z) :)
      settings := ⟨Settings.default_inRange, fun agrees => (image agrees).2.1, fun n => (segment n).symm ▸ reset.burst, Nat.zero_le _⟩
      count := ⟨fun n => (segment n).symm ▸ reset.count, ⟨Nat.zero_le _, Nat.zero_le _⟩,
        fun c => (notice c).symm ▸ ⟨Nat.zero_le _, nofun⟩, Nat.zero_le _, Nat.zero_le _, fun agrees => (image agrees).2.2.1⟩
      load := fun _ => ⟨rfl, rfl, rfl, rfl, rfl, rfl, rfl, rfl, rfl, rfl, rfl, rfl, rfl, fun n => by
        have quiet : State.reset.segment n = .afterReset := segment n
        exact ⟨(congrArg Segment.commands quiet :), (congrArg Segment.stations quiet :)⟩⟩ }

theorem State.Law.image_lawful (h : s.Law) (agrees : s.store.image.agrees = true) : s.store.image.Lawful := by
  obtain ⟨-, -, -, valid⟩ := h.plan
  obtain ⟨-, first⟩ := h.generation
  obtain ⟨-, inRange, -⟩ := h.settings
  obtain ⟨-, -, -, -, -, small⟩ := h.count
  exact ⟨valid agrees, inRange agrees, small agrees, first agrees⟩

theorem State.Law.coldReset (h : s.Law) : (coldReset s).Law := State.law_at_reset _ _ _ _ h.image_lawful _ _

theorem execColdReset_law (h : s.Law) : LeadsTo (execColdReset s) State.Law := leadsTo_next h.coldReset

theorem execColdResetEnd_law (h : s.Law) (straps : BitVec 8) : LeadsTo (execColdResetEnd straps s) State.Law :=
  leadsTo_ite (fun low => { h with load := fun _ => h.load (.inl low) }) h

/-! ## The end of the store load (R162) -/

/-- The laws of a state whose load ends with bank, generation, settings and store, its zones lit and its ports matched. -/
theorem State.Law.loaded (h : s.Law) (running : s.resetLow = false) (loading : s.loading = true) {b : Bank} {g : Nat} {c : Settings}
    {w : Store} (valid : b.Valid) (first : g = 0 → b = .empty) (small : g ≤ 65535) (inRange : c.InRange) (image : w.image = s.store.image)
    (idle : w.writing = false)
    (same : w.status = .valid →
      w.image.agrees = true ∧ w.image.bank = b ∧ w.image.generation = g ∧ w.image.settings = c) :
    ({ s with
        loading := false, active := b, generation := g, settings := c, store := w
        segments := mapNumbered s.segments fun n x => x.matchForced (nth c.forcedHold false n)
        zones := lightZones { s with active := b }
        presence := presenceTable b.windows []
        sweep := { s.sweep with elapsed := 0 } } : State).Law := by
  obtain ⟨active, staged, generation, settings, staging, zones, cache, presence, current, phase, status, writing, noReport,
    segments⟩ := h.load (.inr loading)
  have stored : b.Stored := valid.1
  have lit := lightZones_lawful (s := { s with active := b }) stored
  obtain ⟨-, uplinkQueue, held, down⟩ := h.queue
  obtain ⟨-, -, -, imageValid⟩ := h.plan
  obtain ⟨-, imageFirst⟩ := h.generation
  obtain ⟨-, imageSettings, -, trace⟩ := h.settings
  obtain ⟨-, discards, notice, number, -, imageCount⟩ := h.count
  obtain ⟨before, -⟩ := h.cutover
  obtain ⟨noWalk, isOpen, none, -⟩ := before (by simp [staging])
  obtain ⟨-, dark⟩ := h.shadow
  have shadow : s.shadow = Vector.replicate 255 .idle := dark (by simp [staging])
  obtain ⟨shaded, -⟩ := State.shadowLaw_of_idle shadow
  have noComputed : s.walk.computed = [] := by rw [noWalk]; rfl
  obtain ⟨keyed, supervised, missed⟩ := presenceTable_lawful b.windows (old := []) (fun _ he => (nomatch he))
  have matched : ∀ n, (nth (mapNumbered s.segments fun n x => x.matchForced (nth c.forcedHold false n)) .afterReset n).Lawful :=
    fun n => by
      by_cases inside : 1 ≤ n ∧ n ≤ 4
      · rw [nth_mapNumbered s.segments _ Segment.afterReset Segment.afterReset inside.1 inside.2]
        exact (h.segment n).matchForced _
      · have out : n = 0 ∨ 4 < n := by omega
        obtain rfl | high := out
        · exact Segment.afterReset_lawful
        · rw [nth_of_lt _ _ high]; exact Segment.afterReset_lawful
  exact
    { queue := ⟨fun n => (matched n).queue, uplinkQueue, held, down⟩
      command := fun n => (matched n).command
      level := ⟨fun z => (lit z).1.level, fun z => (shaded z).1, by rw [noComputed]; exact fun _ hc => (nomatch hc), dark⟩
      range := ⟨fun z => (lit z).1.range, fun z => (shaded z).2, by rw [noComputed]; exact fun _ hc => (nomatch hc)⟩
      idle := fun z => (lit z).1.idle
      plan := ⟨valid, h.staged_stored, fun k => absurd staging k, by rw [image]; exact imageValid⟩
      store := ⟨fun k => absurd k (by simp [idle]), fun k => (same k).1, fun k => k.elim (fun k => absurd k (by simp [idle])) fun k => (same k).2⟩
      generation := ⟨first, by rw [image]; exact imageFirst⟩
      pin := by rw [staging]; rintro (k | k | k) <;> cases k
      reliance := by rw [staging]; rintro (k | k) <;> cases k
      cutover := ⟨fun _ => ⟨noWalk, isOpen, none, fun z => (lit z).2.frozen⟩, fun k => by rw [staging] at k; cases k⟩
      table := ⟨by rw [cache]; exact .nil, keyed, supervised, missed⟩
      cache := by rw [State.CacheLaw, cache]; exact fun _ he => (nomatch he)
      report := fun z => (lit z).2.reportPending.trans (by rw [State.reportWaits, noReport]; rfl)
      settings := ⟨inRange, by rw [image]; exact imageSettings, fun n => (matched n).burst, trace⟩
      count := ⟨fun n => (matched n).count, discards, notice, number, small, by rw [image]; exact imageCount⟩
      load := State.Awake.load ⟨running, rfl⟩ }

/-- The state from which the level issues of a store load are made (R62). -/
def State.loadLit (s : State) : State :=
  let t := loadImage s
  { t with
    segments := mapNumbered t.segments fun n g => g.matchForced (t.forcedHold n)
    zones := lightZones t
    presence := presenceTable t.active.windows []
    sweep := { t.sweep with elapsed := 0 } }

theorem State.Law.loadLit (h : s.Law) (running : s.resetLow = false) (loading : s.loading = true) : s.loadLit.Law := by
  obtain ⟨-, -, -, imageValid⟩ := h.plan
  obtain ⟨-, imageFirst⟩ := h.generation
  obtain ⟨-, imageSettings, -⟩ := h.settings
  obtain ⟨-, -, -, -, -, imageCount⟩ := h.count
  obtain ⟨-, -, -, -, -, -, -, -, -, -, -, writing, -, -⟩ := h.load (.inr loading)
  unfold State.loadLit loadImage
  dsimp only
  split
  · next agrees =>
    exact h.loaded running loading (w := { s.store with status := .valid }) (imageValid agrees) (imageFirst agrees)
      (imageCount agrees) (imageSettings agrees) rfl writing fun _ => ⟨agrees, rfl, rfl, rfl⟩
  · have base := h.loaded running loading (g := 0) (w := { s.store with status := .invalid }) Bank.empty_valid (fun _ => rfl)
      (Nat.zero_le _) Settings.default_inRange rfl writing nofun
    exact base.reported .storeInvalid none

theorem execLoadCompletion_law (h : s.Law) : LeadsTo (execLoadCompletion s) State.Law := by
  refine leadsTo_ite (fun due => ?_) h
  simp only [State.running, Bool.and_eq_true, Bool.not_eq_true'] at due
  obtain ⟨running, loading⟩ := due
  have lit := h.loadLit running loading
  have awake : s.loadLit.Awake := by
    unfold State.loadLit loadImage
    dsimp only
    split <;> exact ⟨running, rfl⟩
  exact lit.offers (.issuePresent lit.active_stored lit.zones) awake

/-! ## The warm restart (R183) -/

/-- The abort a RESTART makes keeps every law. -/
theorem State.Law.abortForRestart (h : s.Law) (cutting : s.staging = .cutting) :
    (abortForRestart s).Law ∧ (abortForRestart s).staging ≠ .cutting ∧ (abortForRestart s).Awake := by
  have stop := stopWalk_offers s
  have awake := h.awake_of_staging (by simp [cutting])
  have base := h.stopped cutting (e := { s.engine with gateOpen := true }) (w := { s.sweep with deferred := false }) rfl h.trace rfl
    h.number
  have offers := stop.beside Walk.none { s.engine with gateOpen := true } { s.sweep with deferred := false }
  have eq : Machine.abortForRestart s =
      { stopWalk s with
        walk := Walk.none, engine := { s.engine with gateOpen := true }, sweep := { s.sweep with deferred := false } } := by
    unfold Machine.abortForRestart
    dsimp only
    rw [stop.engine, stop.sweep]
    rfl
  rw [eq]
  have resetLow : (stopWalk s).resetLow = s.resetLow := (congrArg State.resetLow stop.frame :)
  have loading : (stopWalk s).loading = s.loading := (congrArg State.loading stop.frame :)
  refine ⟨base.offers offers awake, ?_, resetLow.trans awake.1, loading.trans awake.2⟩
  have staging : (stopWalk s).staging = s.stopped.staging := (congrArg State.staging stop.frame :)
  show (stopWalk s).staging ≠ .cutting
  rw [staging, State.stopped]
  split
  · exact nofun
  · split <;> exact nofun

theorem Segment.restarted_lawful (g : Segment) (forced : Bool) : (g.restarted forced).Lawful :=
  Segment.Lawful.matchForced ⟨by simp [Segment.QueueLaw, Segment.afterReset], by simp [Segment.afterReset], Nat.zero_le _,
    ⟨Nat.zero_le _, Nat.zero_le _, Nat.zero_le _⟩⟩ forced

/-- The state from which the level issues of a warm restart are made (R63). -/
def State.restartLit (s : State) : State :=
  { s with
    segments := mapNumbered s.segments fun n g => g.restarted (s.forcedHold n)
    engine := { s.engine with pointer := 1, current := none, traceCount := 0 }
    zones := lightZones s }

/-- The writes of a warm restart after its level issues (R183 step 3). -/
def restartRest (t : State) : State :=
  { t with
    cache := []
    staging := if t.staging = .rehearsing then .validated else t.staging
    shadow := Vector.replicate 255 .idle
    presence := presenceTable t.active.windows []
    sweep := { elapsed := 0, number := t.sweep.number, phase := .idle, waiting := 0, deferred := false }
    slot := none
    notices := mapNumbered t.notices fun _ n => { n with pending := false } }

theorem restartBlocks_eq (s : State) : restartBlocks s = restartRest (issuePresent s.restartLit) := rfl

theorem State.segmentsLaw_of_restarted (s : State) : s.restartLit.SegmentsLaw := fun n => by
  by_cases inside : 1 ≤ n ∧ n ≤ 4
  · rw [State.segment, State.restartLit, nth_mapNumbered s.segments _ Segment.afterReset Segment.afterReset inside.1 inside.2]
    exact Segment.restarted_lawful _ _
  · have out : n = 0 ∨ 4 < n := by omega
    obtain rfl | high := out
    · exact Segment.afterReset_lawful
    · rw [State.segment, nth_of_lt _ _ high]; exact Segment.afterReset_lawful

/-- The pending flags are cleared with the notices' laws kept. -/
theorem State.UplinkLaw.restartRest (h : s.UplinkLaw) : (restartRest s).UplinkLaw := by
  obtain ⟨queue, down, discards, notice⟩ := h
  refine ⟨queue, down, discards, fun c => ?_⟩
  have cleared : (Machine.restartRest s).notice c = { s.notice c with pending := false } :=
    nth_mapNumbered_of_fixed s.notices (fun _ n => { n with pending := false }) NoticeState.clear _ fun _ => rfl
  rw [cleared]
  exact ⟨(notice c).1, nofun⟩

theorem State.Offers.restartRest (k : s.Offers t) (uplink : s.UplinkLaw) : (restartRest s).Offers (restartRest t) where
  frame := by
    have frame := k.frame
    rw [frame]
    rfl
  segments := k.segments
  uplink _ := (k.uplink uplink).restartRest
  zone := k.zone

/-- A warm restart from a lawful state outside CUTTING, its uplink replaced by one in which no report waits. -/
theorem State.Law.restartBlocks (h : s.Law) (awake : s.Awake) (free : s.staging ≠ .cutting) {q : Uplink}
    (uplink : ({ s with uplink := q } : State).UplinkLaw) (noReport : q.reports = []) :
    (restartBlocks { s with uplink := q }).Law := by
  have stored := h.active_stored
  have lit := lightZones_lawful stored
  have segments := State.segmentsLaw_of_restarted { s with uplink := q }
  have zones : ({ s with uplink := q } : State).restartLit.ZonesLaw := fun z => (lit z).1
  have issued := State.Offers.issuePresent (s := ({ s with uplink := q } : State).restartLit) stored zones
  have rest := issued.restartRest uplink
  obtain ⟨active, staged, valid, image⟩ := h.plan
  obtain ⟨queue, down, discards, notice⟩ := State.UplinkLaw.restartRest (s := ({ s with uplink := q } : State).restartLit) uplink
  obtain ⟨inRange, imageSettings, -, -⟩ := h.settings
  obtain ⟨-, -, -, number, generation, imageCount⟩ := h.count
  obtain ⟨before, -⟩ := h.cutover
  obtain ⟨noWalk, isOpen, -, -⟩ := before free
  have noComputed : s.walk.computed = [] := by rw [noWalk]; rfl
  have noHeld : s.walk.held = [] := by rw [noWalk]; rfl
  obtain ⟨keyed, supervised, missed⟩ := presenceTable_lawful s.active.windows (old := []) (fun _ he => (nomatch he))
  obtain ⟨shaded, -⟩ := State.shadowLaw_of_idle (s := Machine.restartRest ({ s with uplink := q } : State).restartLit) rfl
  have staging : (Machine.restartRest ({ s with uplink := q } : State).restartLit).staging =
      if s.staging = .rehearsing then .validated else s.staging := rfl
  have next : s.staging = .rehearsing ∧ (Machine.restartRest ({ s with uplink := q } : State).restartLit).staging = .validated
      ∨ s.staging ≠ .rehearsing ∧ (Machine.restartRest ({ s with uplink := q } : State).restartLit).staging = s.staging := by
    rw [staging]; split <;> simp_all
  have base : (Machine.restartRest ({ s with uplink := q } : State).restartLit).Law :=
    { queue := ⟨fun n => (segments n).queue, queue, by
        show s.walk.held.length ≤ 32
        rw [noHeld]; exact Nat.zero_le _, down⟩
      command := fun n => (segments n).command
      level := ⟨fun z => (lit z).1.level, fun z => (shaded z).1, by
        show ∀ c ∈ s.walk.computed, _
        rw [noComputed]; exact fun _ hc => (nomatch hc), fun _ => rfl⟩
      range := ⟨fun z => (lit z).1.range, fun z => (shaded z).2, by
        show ∀ c ∈ s.walk.computed, _
        rw [noComputed]; exact fun _ hc => (nomatch hc)⟩
      idle := fun z => (lit z).1.idle
      plan := ⟨active, staged, fun past past' => by
        obtain ⟨k, -⟩ | ⟨-, k⟩ := next
        · exact valid (by simp [k]) (by simp [k])
        · rw [k] at past past'; exact valid past past', image⟩
      store := h.store
      generation := h.generation
      pin := fun past => h.pin (by
        obtain ⟨k, -⟩ | ⟨-, k⟩ := next
        · exact .inr (.inl k)
        · rwa [k] at past)
      reliance := fun past => h.reliance (by
        obtain ⟨k, -⟩ | ⟨-, k⟩ := next
        · exact .inr k
        · rwa [k] at past)
      cutover := ⟨fun _ => ⟨noWalk, isOpen, rfl, fun z => (lit z).2.frozen⟩, fun k => by
        obtain ⟨-, k'⟩ | ⟨-, k'⟩ := next
        · rw [k'] at k; cases k
        · rw [k'] at k; exact absurd k free⟩
      table := ⟨.nil, keyed, supervised, missed⟩
      cache := fun _ he => (nomatch he)
      report := fun z => (lit z).2.reportPending.trans (by
        show _ = q.reports.any _
        rw [noReport]; rfl)
      settings := ⟨inRange, imageSettings, fun n => (segments n).burst, Nat.zero_le _⟩
      count := ⟨fun n => (segments n).count, discards, notice, number, generation, imageCount⟩
      load := State.Awake.load awake }
  rw [restartBlocks_eq]
  exact base.offers rest awake

theorem State.UplinkLaw.emptied (h : s.UplinkLaw) : ({ s with uplink := .empty } : State).UplinkLaw := by
  obtain ⟨-, -, -, notice⟩ := h
  exact ⟨Uplink.empty_queueLaw, fun _ => ⟨rfl, rfl, rfl, rfl⟩, ⟨Nat.zero_le _, Nat.zero_le _⟩, notice⟩

theorem State.UplinkLaw.offerReply (h : s.UplinkLaw) (r : Reply) (room : s.uplink.replies.length < 8) : (offerReply r s).UplinkLaw := by
  obtain ⟨⟨replies, forwards, traces, reports, notices⟩, down, discards, notice⟩ := h
  unfold Machine.offerReply
  split
  · next isUp =>
    exact ⟨⟨by simpa using room, forwards, traces, reports, notices⟩, fun isDown => by simp [isUp] at isDown, discards, notice⟩
  · exact ⟨⟨replies, forwards, traces, reports, notices⟩, down, discards, notice⟩

theorem State.Law.warmRestart (h : s.Law) (awake : s.Awake) (r : Request) : (warmRestart r s).Law := by
  have aborted : ∃ t, t = (if s.staging = .cutting then Machine.abortForRestart s else s) ∧ t.Law ∧ t.staging ≠ .cutting
      ∧ t.Awake := by
    refine ⟨_, rfl, ?_⟩
    split
    · next cutting => exact h.abortForRestart cutting
    · next free => exact ⟨h, free, awake⟩
  obtain ⟨t, eq, law, free, awake⟩ := aborted
  have replied := law.uplink.emptied.offerReply { tag := r.tag, body := byte 23 :: byte Result.ok.code :: [] } (Nat.zero_lt_succ 7)
  have noReport : (Machine.offerReply { tag := r.tag, body := byte 23 :: byte Result.ok.code :: [] }
      { t with uplink := .empty }).uplink.reports = [] := by
    unfold Machine.offerReply
    dsimp only
    split <;> rfl
  unfold Machine.warmRestart
  rw [← eq]
  exact law.restartBlocks awake free replied noReport

theorem execRestart_law (h : s.Law) : LeadsTo (execRestart s) State.Law := by
  refine leadsTo_next ?_
  split
  · next r taken =>
    obtain ⟨running, room⟩ := State.room_of_takeable taken
    have refused := fun x => (Verdict.Keeps.refuse h.slotEmptied x).replyTo room r (byte 23)
    split
    · dsimp only
      split
      · exact refused _
      · next passes =>
        split
        · exact refused _
        · exact h.slotEmptied.warmRestart ⟨running, loaded_of_screenRequest passes⟩ r
    · exact h
  · exact h

/-! ## Every command and every step -/

/-- Every command keeps every law. -/
theorem exec_law (h : s.Law) (c : Instr) : LeadsTo (exec c s) State.Law := by
  cases c with
  | coldReset => exact execColdReset_law h
  | coldResetEnd straps => exact execColdResetEnd_law h straps
  | loadCompletion => exact execLoadCompletion_law h
  | deviceTimeAdvance => exact execDeviceTimeAdvance_law h
  | receptionCompletion n bytes => exact execReceptionCompletion_law h n bytes
  | segmentSilenceExpiry n => exact execSegmentSilenceExpiry_law h n
  | take => exact execTake_law h
  | translationCompletion => exact execTranslationCompletion_law h
  | holdExpiry z => exact execHoldExpiry_law h z
  | graceExpiry z => exact execGraceExpiry_law h z
  | shadowHoldExpiry z => exact execShadowHoldExpiry_law h z
  | shadowGraceExpiry z => exact execShadowGraceExpiry_law h z
  | transmissionStart n => exact execTransmissionStart_law h n
  | transmitCompletion n => exact execTransmitCompletion_law h n
  | trunkFrameReceived bytes => exact execTrunkFrameReceived_law h bytes
  | trunkTransmitStart => exact execTrunkTransmitStart_law h
  | trunkTransmitCompletion => exact execTrunkTransmitCompletion_law h
  | trunkLoss => exact execTrunkLoss_law h
  | trunkRestoration => exact execTrunkRestoration_law h
  | maintChange active => exact execMaintChange_law h active
  | identify => exact execIdentify_law h
  | readStatus => exact execReadStatus_law h
  | readTable => exact execReadTable_law h
  | writeStaged => exact execWriteStaged_law h
  | insertWindow => exact execInsertWindow_law h
  | deleteWindow => exact execDeleteWindow_law h
  | clearEntry => exact execClearEntry_law h
  | copyActive => exact execCopyActive_law h
  | discardStaged => exact execDiscardStaged_law h
  | validate => exact execValidate_law h
  | rehearseStart => exact execRehearseStart_law h
  | rehearseStop => exact execRehearseStop_law h
  | cutover => exact execCutover_law h
  | walkBegin => exact execWalkBegin_law h
  | walkStepCompletion => exact execWalkStepCompletion_law h
  | cutoverCompletion => exact execCutoverCompletion_law h
  | abortCutover => exact execAbortCutover_law h
  | zoneSetLevel => exact execZoneSetLevel_law h
  | zoneForce => exact execZoneForce_law h
  | zoneSetDamper => exact execZoneSetDamper_law h
  | setParameter => exact execSetParameter_law h
  | setClosedFloor => exact execSetClosedFloor_law h
  | flushReadings => exact execFlushReadings_law h
  | clearPending => exact execClearPending_law h
  | clearOccurrences => exact execClearOccurrences_law h
  | restart => exact execRestart_law h
  | storeWriteCompletion success => exact execStoreWriteCompletion_law h success
  | sweepTimerExpiry => exact execSweepTimerExpiry_law h
  | sweepStart => exact execSweepStart_law h
  | presencePass => exact execPresencePass_law h
  | zoneTemperatureComputation => exact execZoneTemperatureComputation_law h
  | shadowTemperatureComputation => exact execShadowTemperatureComputation_law h
  | refresh => exact execRefresh_law h
  | receptionStart n => exact execReceptionStart_law h n
  | unknownRequestName => exact execUnknownRequestName_law h

/-- The laws hold across every step: the whole conjunction is inductive. -/
theorem step_law {s' : State} (h : s.Law) (hs : step s = .next s') : s'.Law := by
  obtain ⟨-, rfl⟩ | ⟨c, rest, -, ran⟩ := step_cases hs
  · exact h
  · have taken : ({ s with pending := rest } : State).Law := { h with }
    obtain ⟨t, eq, law⟩ := exec_law taken c
    rw [eq] at ran
    obtain rfl := Host.Outcome.next.inj ran
    exact law

end

/-- Settles O4: the laws are kept together, since each operation needs several of them. -/
theorem queuesKeepTheirBounds : Obligations.QueuesKeepTheirBounds := fun _ _ h hs => (step_law h hs).queue

/-- Settles O5, from the laws of R61 and R116 across a step. -/
theorem levelsKeepTheirBounds : Obligations.LevelsKeepTheirBounds := fun _ _ h hs =>
  ⟨(step_law h hs).level, (step_law h hs).command⟩

/-- Settles O6, from the ranges of Table 4-2 across a step. -/
theorem zoneStatesStayInRange : Obligations.ZoneStatesStayInRange := fun _ _ h hs => (step_law h hs).range

/-- Settles O7, from the laws of R60 and R124 across a step. -/
theorem absentZonesStayIdleAndFlagsMatchReports : Obligations.AbsentZonesStayIdleAndFlagsMatchReports := fun _ _ h hs =>
  ⟨(step_law h hs).idle, (step_law h hs).report⟩

/-- Settles O8, from the laws of plans, generation and store across a step. -/
theorem plansStayValid : Obligations.PlansStayValid := fun _ _ h hs =>
  ⟨(step_law h hs).plan, (step_law h hs).generation, (step_law h hs).store⟩

/-- Settles O9, from the laws of pins and reliance across a step. -/
theorem pinsAndRelianceHold : Obligations.PinsAndRelianceHold := fun _ _ h hs => ⟨(step_law h hs).pin, (step_law h hs).reliance⟩

/-- Settles O10, from the law of cutover across a step. -/
theorem walkStateMatchesStaging : Obligations.WalkStateMatchesStaging := fun _ _ h hs => (step_law h hs).cutover

/-- Settles O11, from the laws of the keyed tables across a step. -/
theorem tablesStayKeyed : Obligations.TablesStayKeyed :=
  ⟨fun _ _ h hs => ⟨(step_law h hs).table, (step_law h hs).cache⟩, fun _ _ => mem_supervisedAddresses⟩

/-- Settles O12, from the laws of settings and counts across a step. -/
theorem settingsAndCountsStayInRange : Obligations.SettingsAndCountsStayInRange := fun _ _ h hs =>
  ⟨(step_law h hs).settings, (step_law h hs).count⟩

/-- Settles O13, from the law of reset and store load across a step. -/
theorem loadIsQuiet : Obligations.LoadIsQuiet := fun _ _ h hs => (step_law h hs).load

end Sys2Proof.Machine
end

/-! # What every command answers, and what it carries over -/

section
namespace Sys2Proof.Machine

section
variable {s t u : State}

/-- The waiting commands and the active bank stand. -/
structure State.Carries (s t : State) : Prop where
  pending : t.pending = s.pending
  active : t.active = s.active

theorem State.Carries.refl (s : State) : s.Carries s := ⟨rfl, rfl⟩

theorem State.Carries.trans (h : s.Carries t) (k : t.Carries u) : s.Carries u :=
  ⟨k.pending.trans h.pending, k.active.trans h.active⟩

theorem State.Carries.of_standing (stands : t.standing = s.standing) : s.Carries t :=
  ⟨(congrArg State.pending stands :), (congrArg State.active stands :)⟩

theorem State.Carries.of_settles (h : s.Settles t) : s.Carries t :=
  ⟨(congrArg State.pending h.frame :), (congrArg State.active h.frame :)⟩

theorem State.Carries.of_offers (h : s.Offers t) : s.Carries t := .of_standing h.stands

theorem State.Carries.of_ite {p : Prop} [Decidable p] {a b : State} (yes : s.Carries a) (no : s.Carries b) :
    s.Carries (if p then a else b) := by
  split
  · exact yes
  · exact no

/-! ## Folds of issues -/

theorem foldl_standing {f : Nat → State → State} (keep : ∀ z t, (f z t).standing = t.standing) (zs : List Nat) (s : State) :
    (zs.foldl (fun t z => f z t) s).standing = s.standing := by
  induction zs generalizing s with
  | nil => rfl
  | cons z zs ih => exact (ih (f z s)).trans (keep z s)

theorem issuePresent_standing (s : State) : (issuePresent s).standing = s.standing := foldl_standing normalIssue_standing _ s

theorem reissueZone_standing (z : Nat) (s : State) : (reissueZone z s).standing = s.standing := by
  rw [reissueZone, damperIssue_standing, levelIssue_standing]

/-! ## The commands outside the requests -/

theorem State.Carries.offerRecord (n : Nat) (r : IngressRecord) (s : State) : s.Carries (offerRecord n r s) := .of_ite ⟨rfl, rfl⟩ ⟨rfl, rfl⟩

theorem State.Carries.arrive (n : Nat) (f : FieldFrame) (s : State) : s.Carries (arrive n f s) := by
  refine .trans ?_ (.offerRecord n _ _)
  exact .of_ite ⟨rfl, rfl⟩ ⟨rfl, rfl⟩

theorem execReceptionCompletion_carries (n : Nat) (bytes : List Byte) (s : State) :
    LeadsTo (execReceptionCompletion n bytes s) s.Carries := by
  refine leadsTo_ite (fun _ => ?_) (.refl s)
  dsimp only
  split
  · exact .trans (t := s.setSegment n { s.segment n with receiving := false }) ⟨rfl, rfl⟩ (.arrive n _ _)
  · exact ⟨rfl, rfl⟩

theorem execTake_carries (s : State) : LeadsTo (execTake s) s.Carries := by
  refine leadsTo_ite (fun _ => ?_) (.refl s)
  split
  · split
    · exact ⟨rfl, rfl⟩
    · exact .refl s
  · exact .refl s

theorem State.Carries.translate (x : Translation) (s : State) : s.Carries (translate x s) := by
  rw [translate_eq]
  have active := State.Carries.of_standing (activeRun_standing x s)
  exact active.trans (.trans (.of_ite (.of_standing (stagedRun_standing _ _)) (.refl _)) ⟨rfl, rfl⟩)

theorem execTranslationCompletion_carries (s : State) : LeadsTo (execTranslationCompletion s) s.Carries := by
  refine leadsTo_next ?_
  split
  · exact .of_ite (.translate _ s) (.refl s)
  · exact .refl s

theorem State.Carries.fieldDown (d : FieldDown) (s : State) : s.Carries (fieldDown d s) := by
  refine .of_ite ⟨rfl, rfl⟩ (.of_ite ?_ (.of_offers (.deliver s d)))
  exact .of_ite ⟨rfl, rfl⟩ ⟨rfl, rfl⟩

theorem State.Carries.offerRequest (f : TrunkFrame) (s : State) : s.Carries (offerRequest f s) := by
  unfold Machine.offerRequest
  split <;> exact ⟨rfl, rfl⟩

theorem State.Carries.acceptTrunk (f : TrunkFrame) (s : State) : s.Carries (acceptTrunk f s) := by
  refine .of_ite (.of_ite (.offerRequest f s) ⟨rfl, rfl⟩) (.of_ite (.of_ite ?_ (.refl s)) (.refl s))
  split
  · exact .fieldDown _ s
  · exact .refl s

theorem execTrunkFrameReceived_carries (bytes : List Byte) (s : State) : LeadsTo (execTrunkFrameReceived bytes s) s.Carries := by
  refine leadsTo_ite (fun _ => ?_) (.refl s)
  split
  · exact .of_ite (.acceptTrunk _ s) (.refl s)
  · exact .refl s

theorem State.Carries.startTrunk (s : State) : s.Carries (startTrunk s) := by
  unfold Machine.startTrunk
  dsimp only
  repeat' split
  all_goals exact ⟨rfl, rfl⟩

theorem State.Carries.leaveTo (next : StagingState) (s : State) : s.Carries (leaveTo next s) :=
  .trans (t := s.left next) ⟨rfl, rfl⟩ (.of_settles (leaveTo_settles next s))

theorem State.Carries.withdraw (s : State) : s.Carries (withdraw s) :=
  (State.Carries.leaveTo .editing s).trans ⟨rfl, rfl⟩

theorem execMaintChange_carries (active : Bool) (s : State) : LeadsTo (execMaintChange active s) s.Carries :=
  leadsTo_next (.trans (t := { s with maint := active }) ⟨rfl, rfl⟩ (.of_ite (.withdraw _) (.refl _)))

theorem execWalkStepCompletion_carries (s : State) : LeadsTo (execWalkStepCompletion s) s.Carries := by
  refine leadsTo_ite (fun _ => ?_) (.refl s)
  unfold completeStep
  dsimp only
  split <;> exact ⟨rfl, rfl⟩

theorem execZoneTemperatureComputation_carries (s : State) : LeadsTo (execZoneTemperatureComputation s) s.Carries := by
  refine leadsTo_next ?_
  split
  · refine .of_ite ?_ (.refl s)
    split
    · next z _ =>
      have computed : s.Carries (sweepReport z (computeTemperature z s)) :=
        .of_standing ((sweepReport_standing z _).trans (setZone_standing s z _))
      exact computed.trans (.of_settles (.sweepTo _ _))
    · exact .of_settles (.settleSweep s)
  · exact .refl s

theorem execShadowTemperatureComputation_carries (s : State) : LeadsTo (execShadowTemperatureComputation s) s.Carries := by
  refine leadsTo_next ?_
  split
  · refine .of_ite ?_ (.refl s)
    split
    · next z _ => exact .trans (t := computeShadowTemperature z s) ⟨rfl, rfl⟩ (.of_settles (.sweepTo _ _))
    · exact .of_settles (.settleSweep s)
  · exact .refl s

theorem execRefresh_carries (s : State) : LeadsTo (execRefresh s) s.Carries := by
  refine leadsTo_next ?_
  split
  · refine .of_ite ?_ (.refl s)
    split
    · next z _ => exact (State.Carries.of_standing (refreshZone_standing z s)).trans (.of_settles (.sweepTo _ _))
    · exact .of_settles (.settleSweep s)
  · exact .refl s

/-! ## The requests -/

/-- A management command carries over what its decision carries over. -/
theorem manage_carries {code : Nat} {anyDestination duringLoad : Bool} {decision : List Byte → State → Verdict}
    (decided : ∀ args t, State.Carries t (decision args t).state) (s : State) :
    LeadsTo (manage code anyDestination duringLoad decision s) s.Carries := by
  obtain same | ⟨r, v, -, -, made, answers⟩ := manage_cases code anyDestination duringLoad decision s
  · exact same ▸ leadsTo_next (.refl s)
  · have slot : s.Carries { s with slot := none } := ⟨rfl, rfl⟩
    have state : s.Carries v.state := by
      obtain rfl | ⟨x, rfl⟩ := made
      · exact slot.trans (decided _ _)
      · exact slot
    exact answers ▸ leadsTo_next (state.trans ⟨rfl, rfl⟩)

theorem State.Carries.edit (change : Bank → Bank) (s : State) : s.Carries (edit change s) := (State.Carries.leaveTo .editing s).trans ⟨rfl, rfl⟩

/-- The decision leaves the state as it is, or makes an edit. -/
def Verdict.Edits (v : Verdict) (s : State) : Prop := v.state = s ∨ ∃ change, v.state = edit change s

theorem Verdict.Edits.carries {v : Verdict} (h : v.Edits s) : s.Carries v.state := by
  obtain same | ⟨change, edited⟩ := h
  · exact same ▸ .refl s
  · exact edited ▸ .edit change s

theorem Verdict.Edits.refuse (r : Result) (s : State) : (refuse r s).Edits s := .inl rfl

theorem Verdict.Edits.accept (clamped : Bool) (change : Bank → Bank) (s : State) : (accept clamped (edit change s)).Edits s :=
  .inr ⟨change, rfl⟩

theorem Verdict.Edits.of_ite {p : Prop} [Decidable p] {a b : Verdict} (yes : a.Edits s) (no : b.Edits s) :
    Verdict.Edits (if p then a else b) s := by
  split
  · exact yes
  · exact no

theorem writeStaged_edits (table i : Nat) (body : List Byte) (s : State) : (writeStaged table i body s).Edits s := by
  unfold writeStaged
  split
  · exact .refuse _ s
  · refine .of_ite (.refuse _ s) (.of_ite (.refuse _ s) (.of_ite ?_ (.of_ite ?_ ?_)))
    · refine .of_ite (.refuse _ s) (.of_ite (.refuse _ s) ?_)
      split
      · exact .accept _ _ s
      · exact .refuse _ s
    · refine .of_ite (.refuse _ s) ?_
      split
      · exact .accept _ _ s
      · exact .refuse _ s
    · refine .of_ite (.refuse _ s) ?_
      split
      · exact .accept _ _ s
      · exact .refuse _ s

theorem insertWindow_edits (table i : Nat) (body : List Byte) (s : State) : (insertWindow table i body s).Edits s := by
  unfold insertWindow
  split
  · exact .refuse _ s
  · refine .of_ite (.refuse _ s) (.of_ite (.refuse _ s) (.of_ite (.refuse _ s) ?_))
    split
    · exact .accept _ _ s
    · exact .refuse _ s

theorem deleteAt_edits (i : Nat) (s : State) : (deleteAt i s).Edits s := .of_ite (.refuse _ s) (.accept _ _ s)

theorem deleteWindow_edits (table i : Nat) (s : State) : (deleteWindow table i s).Edits s := by
  unfold deleteWindow
  split
  · exact .refuse _ s
  · exact .of_ite (.refuse _ s) (deleteAt_edits i s)

theorem clearEntry_edits (table i : Nat) (s : State) : (clearEntry table i s).Edits s := by
  unfold clearEntry
  split
  · exact .refuse _ s
  · exact .of_ite (deleteAt_edits i s) (.of_ite (.of_ite (.refuse _ s) (.accept _ _ s))
      (.of_ite (.of_ite (.refuse _ s) (.accept _ _ s)) (.refuse _ s)))

theorem execWriteStaged_carries (s : State) : LeadsTo (execWriteStaged s) s.Carries :=
  manage_carries (fun args t => by
    split
    · exact (writeStaged_edits _ _ _ t).carries
    · exact .refl t) s

theorem execInsertWindow_carries (s : State) : LeadsTo (execInsertWindow s) s.Carries :=
  manage_carries (fun args t => by
    split
    · exact (insertWindow_edits _ _ _ t).carries
    · exact .refl t) s

theorem execDeleteWindow_carries (s : State) : LeadsTo (execDeleteWindow s) s.Carries :=
  manage_carries (fun args t => by
    split
    · exact (deleteWindow_edits _ _ t).carries
    · exact .refl t) s

theorem execClearEntry_carries (s : State) : LeadsTo (execClearEntry s) s.Carries :=
  manage_carries (fun args t => by
    split
    · exact (clearEntry_edits _ _ t).carries
    · exact .refl t) s

theorem State.Carries.replaceStaged (next : StagingState) (bank : State → Bank) (s : State) :
    s.Carries (replaceStaged next bank s).state := by
  unfold Machine.replaceStaged
  split
  · exact .refl s
  · exact (State.Carries.leaveTo next s).trans ⟨rfl, rfl⟩

theorem State.Carries.validate (s : State) : s.Carries (validate s).state := by
  unfold Machine.validate
  dsimp only
  repeat' split
  all_goals exact ⟨rfl, rfl⟩

theorem State.Carries.rehearseStart (s : State) : s.Carries (rehearseStart s).state := by
  unfold Machine.rehearseStart
  repeat' split
  all_goals exact ⟨rfl, rfl⟩

theorem State.Carries.rehearseStop (s : State) : s.Carries (rehearseStop s).state := by
  unfold Machine.rehearseStop
  split
  · exact .refl s
  · split
    · exact .refl s
    · exact .leaveTo .validated s

theorem State.Carries.acceptCutover (revert : Bool) (s : State) : s.Carries (acceptCutover revert s) :=
  .trans (t := s.cut revert) ⟨rfl, rfl⟩ (.of_settles (acceptCutover_settles revert s))

theorem State.Carries.cutover (s : State) : s.Carries (cutover s).state := by
  have reverted (result : ValidationResult) : s.Carries (Machine.acceptCutover true { s with result }) :=
    .trans (t := { s with result }) ⟨rfl, rfl⟩ (.acceptCutover true _)
  unfold Machine.cutover
  split
  · exact .refl s
  split
  · exact .refl s
  split
  · exact .refl s
  split
  · split
    · split
      · exact reverted _
      · exact .refl s
    · exact reverted _
  · exact .acceptCutover false s

theorem State.Carries.abortWalk (s : State) : s.Carries (abortWalk s) := by
  refine .trans ?_ (.of_offers (abortWalk_offers s))
  exact ⟨rfl, rfl⟩

theorem execAbortCutover_carries (s : State) : LeadsTo (execAbortCutover s) s.Carries :=
  manage_carries (fun _ t => by
    split
    · exact .abortWalk t
    · exact .refl t) s

theorem State.Carries.zoneSetLevel (z requested : Nat) (s : State) : s.Carries (zoneSetLevel z requested s).state := by
  unfold Machine.zoneSetLevel
  split
  · exact .refl s
  · exact .of_standing (zoneAction_standing z _ s)

theorem State.Carries.zoneForce (z requested : Nat) (s : State) : s.Carries (zoneForce z requested s).state := by
  unfold Machine.zoneForce
  split
  · exact .refl s
  · split
    · exact .of_standing (zoneAction_standing z _ s)
    · split
      · exact .of_standing (zoneAction_standing z _ s)
      · exact .refl s

theorem State.Carries.zoneSetDamper (z requested : Nat) (s : State) : s.Carries (zoneSetDamper z requested s).state := by
  unfold Machine.zoneSetDamper
  split
  · exact .refl s
  · exact .of_standing ((damperIssue_standing z _).trans (setZone_standing s z _))

theorem execZoneSetLevel_carries (s : State) : LeadsTo (execZoneSetLevel s) s.Carries :=
  manage_carries (fun args t => by
    split
    · exact .zoneSetLevel _ _ t
    · exact .refl t) s

theorem execZoneForce_carries (s : State) : LeadsTo (execZoneForce s) s.Carries :=
  manage_carries (fun args t => by
    split
    · exact .zoneForce _ _ t
    · exact .refl t) s

theorem execZoneSetDamper_carries (s : State) : LeadsTo (execZoneSetDamper s) s.Carries :=
  manage_carries (fun args t => by
    split
    · exact .zoneSetDamper _ _ t
    · exact .refl t) s

theorem applySetting_carries {setting which value : Nat} {t : State} {clamped : Bool}
    (h : applySetting setting which value s = some (t, clamped)) : s.Carries t := by
  unfold applySetting at h
  split at h
  case h_1 =>
    cases h
    refine .trans ?_ (.of_settles (.retimeSweep _))
    exact ⟨rfl, rfl⟩
  case h_4 =>
    cases h
    refine .trans ?_ (.of_offers (.retimeSilence _))
    exact ⟨rfl, rfl⟩
  case h_7 | h_8 =>
    split at h
    · cases h
    · cases h
      exact ⟨rfl, rfl⟩
  case h_9 => cases h
  all_goals
    cases h
    exact ⟨rfl, rfl⟩

theorem execSetParameter_carries (s : State) : LeadsTo (execSetParameter s) s.Carries :=
  manage_carries (fun args t => by
    split
    · unfold setParameter
      split
      · exact .refl t
      split
      · exact .refl t
      split
      · next applied => exact (applySetting_carries applied).trans ⟨rfl, rfl⟩
      · exact .refl t
    · exact .refl t) s

theorem execSetClosedFloor_carries (s : State) : LeadsTo (execSetClosedFloor s) s.Carries :=
  manage_carries (fun args t => by
    split
    · unfold setClosedFloor
      repeat' split
      all_goals exact ⟨rfl, rfl⟩
    · exact .refl t) s

theorem execFlushReadings_carries (s : State) : LeadsTo (execFlushReadings s) s.Carries :=
  manage_carries (fun _ t => by
    split
    · exact .refl t
    · exact ⟨rfl, rfl⟩) s

theorem execClearPending_carries (s : State) : LeadsTo (execClearPending s) s.Carries :=
  manage_carries (fun args t => by
    unfold clearPending
    split
    · exact .refl t
    · exact ⟨rfl, rfl⟩) s

theorem execIdentify_carries (s : State) : LeadsTo (execIdentify s) s.Carries := manage_carries (fun _ t => .refl t) s

theorem execReadStatus_carries (s : State) : LeadsTo (execReadStatus s) s.Carries := manage_carries (fun _ t => .refl t) s

theorem execCopyActive_carries (s : State) : LeadsTo (execCopyActive s) s.Carries := manage_carries (fun _ t => .replaceStaged _ _ t) s

theorem execDiscardStaged_carries (s : State) : LeadsTo (execDiscardStaged s) s.Carries := manage_carries (fun _ t => .replaceStaged _ _ t) s

theorem execValidate_carries (s : State) : LeadsTo (execValidate s) s.Carries := manage_carries (fun _ t => .validate t) s

theorem execRehearseStart_carries (s : State) : LeadsTo (execRehearseStart s) s.Carries := manage_carries (fun _ t => .rehearseStart t) s

theorem execRehearseStop_carries (s : State) : LeadsTo (execRehearseStop s) s.Carries := manage_carries (fun _ t => .rehearseStop t) s

theorem execCutover_carries (s : State) : LeadsTo (execCutover s) s.Carries := manage_carries (fun _ t => .cutover t) s

theorem execClearOccurrences_carries (s : State) : LeadsTo (execClearOccurrences s) s.Carries := manage_carries (fun _ _ => ⟨rfl, rfl⟩) s

theorem execReadTable_carries (s : State) : LeadsTo (execReadTable s) s.Carries :=
  manage_carries (fun args t => by
    split
    · rw [readTable_state]; exact .refl t
    · exact .refl t) s

theorem execUnknownRequestName_carries (s : State) : LeadsTo (execUnknownRequestName s) s.Carries := by
  refine leadsTo_next ?_
  split
  · dsimp only
    split
    · exact .of_ite (.refl s) ⟨rfl, rfl⟩
    · exact ⟨rfl, rfl⟩
  · exact .refl s

theorem execStoreWriteCompletion_carries (success : Bool) (s : State) : LeadsTo (execStoreWriteCompletion success s) s.Carries := by
  refine leadsTo_ite (fun _ => ?_) (.refl s)
  dsimp only
  split <;> exact ⟨rfl, rfl⟩

/-! ## The restart -/

theorem State.Carries.restartBlocks (s : State) : s.Carries (restartBlocks s) := by
  rw [restartBlocks_eq]
  exact .trans (t := s.restartLit) ⟨rfl, rfl⟩ (.trans (.of_standing (issuePresent_standing _)) ⟨rfl, rfl⟩)

theorem State.Carries.abortForRestart (s : State) : s.Carries (abortForRestart s) :=
  .trans (t := s.stopped) ⟨rfl, rfl⟩ ((State.Carries.of_offers (stopWalk_offers s)).trans ⟨rfl, rfl⟩)

theorem State.Carries.warmRestart (r : Request) (s : State) : s.Carries (warmRestart r s) := by
  have aborted : s.Carries (if s.staging = .cutting then Machine.abortForRestart s else s) := .of_ite (.abortForRestart s) (.refl s)
  refine aborted.trans (.trans ?_ (.restartBlocks _))
  exact ⟨rfl, rfl⟩

theorem execRestart_carries (s : State) : LeadsTo (execRestart s) s.Carries := by
  refine leadsTo_next ?_
  split
  · refine .of_ite ?_ (.refl s)
    dsimp only
    split
    · exact ⟨rfl, rfl⟩
    · exact .of_ite ⟨rfl, rfl⟩ (.trans (t := { s with slot := none }) ⟨rfl, rfl⟩ (.warmRestart _ _))
  · exact .refl s

/-! ## The three commands that change the active bank -/

theorem loadImage_pending (s : State) : (loadImage s).pending = s.pending := by
  unfold loadImage
  dsimp only
  split <;> rfl

theorem completeLoad_pending (s : State) : (completeLoad s).pending = s.pending :=
  ((State.Carries.of_standing (issuePresent_standing s.loadLit)).pending).trans (loadImage_pending s)

theorem swapAndInstall_pending (s : State) : (swapAndInstall s).pending = s.pending :=
  (State.Carries.of_standing (foldl_standing normalIssue_standing (raisedZones s) s.swapped)).pending

theorem completeCutover_pending (s : State) : (completeCutover s).pending = s.pending := by
  have settled : (settlePlan (swapAndInstall s)).pending = s.pending := swapAndInstall_pending s
  have issued := State.Carries.of_standing
    (foldl_standing reissueZone_standing (zoneNumbers.filter s.walks) (settlePlan (swapAndInstall s)))
  have held := (State.Carries.of_offers (.releaseHeld (startWrite (reissued s)))).pending
  rw [completeCutover_eq]
  dsimp only
  rw [releaseSweep_eq]
  exact held.trans (issued.pending.trans settled)

/-! ## Every command -/

/-- The commands that may change the active bank. -/
def replacesPlan : Instr → Bool
  | .coldReset => true
  | .loadCompletion => true
  | .cutoverCompletion => true
  | _ => false

/-- Every other command carries the active bank over. -/
theorem exec_carries {c : Instr} (keeps : replacesPlan c = false) (s : State) : LeadsTo (exec c s) s.Carries := by
  cases c with
  | coldReset => cases keeps
  | loadCompletion => cases keeps
  | cutoverCompletion => cases keeps
  | coldResetEnd straps => exact leadsTo_ite (fun _ => ⟨rfl, rfl⟩) (.refl s)
  | deviceTimeAdvance => exact leadsTo_ite (fun _ => ⟨rfl, rfl⟩) (.refl s)
  | receptionStart n => exact leadsTo_ite (fun _ => ⟨rfl, rfl⟩) (.refl s)
  | receptionCompletion n bytes => exact execReceptionCompletion_carries n bytes s
  | segmentSilenceExpiry n => exact leadsTo_ite (fun _ => ⟨rfl, rfl⟩) (.refl s)
  | take => exact execTake_carries s
  | translationCompletion => exact execTranslationCompletion_carries s
  | holdExpiry z => exact leadsTo_ite (fun _ => .of_standing (zoneEvent_standing z _ s)) (.refl s)
  | graceExpiry z => exact leadsTo_ite (fun _ => .of_standing (zoneEvent_standing z _ s)) (.refl s)
  | shadowHoldExpiry z => exact leadsTo_ite (fun _ => .of_standing (shadowEvent_standing 0 z _ s)) (.refl s)
  | shadowGraceExpiry z => exact leadsTo_ite (fun _ => .of_standing (shadowEvent_standing 0 z _ s)) (.refl s)
  | transmissionStart n => exact leadsTo_ite (fun _ => ⟨rfl, rfl⟩) (.refl s)
  | transmitCompletion n => exact leadsTo_ite (fun _ => ⟨rfl, rfl⟩) (.refl s)
  | trunkFrameReceived bytes => exact execTrunkFrameReceived_carries bytes s
  | trunkTransmitStart => exact leadsTo_ite (fun _ => .startTrunk s) (.refl s)
  | trunkTransmitCompletion => exact leadsTo_ite (fun _ => ⟨rfl, rfl⟩) (.refl s)
  | trunkLoss => exact leadsTo_ite (fun _ => ⟨rfl, rfl⟩) (.refl s)
  | trunkRestoration => exact leadsTo_ite (fun _ => ⟨rfl, rfl⟩) (.refl s)
  | maintChange active => exact execMaintChange_carries active s
  | identify => exact execIdentify_carries s
  | readStatus => exact execReadStatus_carries s
  | readTable => exact execReadTable_carries s
  | writeStaged => exact execWriteStaged_carries s
  | insertWindow => exact execInsertWindow_carries s
  | deleteWindow => exact execDeleteWindow_carries s
  | clearEntry => exact execClearEntry_carries s
  | copyActive => exact execCopyActive_carries s
  | discardStaged => exact execDiscardStaged_carries s
  | validate => exact execValidate_carries s
  | rehearseStart => exact execRehearseStart_carries s
  | rehearseStop => exact execRehearseStop_carries s
  | cutover => exact execCutover_carries s
  | walkBegin => exact leadsTo_ite (fun _ => ⟨rfl, rfl⟩) (.refl s)
  | walkStepCompletion => exact execWalkStepCompletion_carries s
  | abortCutover => exact execAbortCutover_carries s
  | zoneSetLevel => exact execZoneSetLevel_carries s
  | zoneForce => exact execZoneForce_carries s
  | zoneSetDamper => exact execZoneSetDamper_carries s
  | setParameter => exact execSetParameter_carries s
  | setClosedFloor => exact execSetClosedFloor_carries s
  | flushReadings => exact execFlushReadings_carries s
  | clearPending => exact execClearPending_carries s
  | clearOccurrences => exact execClearOccurrences_carries s
  | restart => exact execRestart_carries s
  | storeWriteCompletion success => exact execStoreWriteCompletion_carries success s
  | sweepTimerExpiry => exact leadsTo_ite (fun _ => .of_settles (.expireSweepTimer s)) (.refl s)
  | sweepStart => exact leadsTo_ite (fun _ => ⟨rfl, rfl⟩) (.refl s)
  | presencePass =>
    refine leadsTo_ite (fun _ => ?_) (.refl s)
    exact (State.Carries.of_standing (presencePass_standing s)).trans (.of_settles (.sweepTo _ _))
  | zoneTemperatureComputation => exact execZoneTemperatureComputation_carries s
  | shadowTemperatureComputation => exact execShadowTemperatureComputation_carries s
  | refresh => exact execRefresh_carries s
  | unknownRequestName => exact execUnknownRequestName_carries s

theorem exec_pending (c : Instr) (s : State) : LeadsTo (exec c s) fun t => t.pending = s.pending := by
  by_cases replaces : replacesPlan c = true
  · cases c with
    | coldReset => exact leadsTo_next rfl
    | loadCompletion => exact leadsTo_ite (fun _ => completeLoad_pending s) rfl
    | cutoverCompletion => exact leadsTo_ite (fun _ => completeCutover_pending s) rfl
    | _ => cases replaces
  · obtain ⟨t, eq, carries⟩ := exec_carries (by simpa using replaces) s
    exact ⟨t, eq, carries.pending⟩

/-! ## Pinned windows (R56) -/

theorem pinTest_window {old new : Bank} (passes : pinTest old new = none) {w : Window} (listed : w ∈ old.windows)
    (pin : w.pin = true) : ∃ v ∈ new.windows, v.samePlace w = true := by
  unfold pinTest at passes
  split at passes
  · cases passes
  · next none =>
    simpa [pin] using List.find?_eq_none.1 none w listed

theorem State.Law.load_active (h : s.Law) (loading : s.loading = true) : s.active = .empty := (h.load (.inr loading)).1

theorem cutting_of_completionDue (due : s.completionDue = true) : s.staging = .cutting := by
  simp only [State.completionDue, Bool.and_eq_true, decide_eq_true_eq] at due
  obtain ⟨⟨⟨⟨-, cutting⟩, -⟩, -⟩, -⟩ := due
  exact cutting

/-- A window of a list has an equal in place in another. -/
def Window.Kept (w : Window) (windows : List Window) : Prop :=
  ∃ v ∈ windows, v.low = w.low ∧ v.high = w.high ∧ v.segment = w.segment ∧ v.zone = w.zone ∧ v.role = w.role

theorem Window.kept_of_samePlace {w v : Window} {windows : List Window} (listed : v ∈ windows) (same : v.samePlace w = true) :
    w.Kept windows := by
  simp only [samePlace, Bool.and_eq_true, beq_iff_eq] at same
  obtain ⟨⟨⟨⟨low, high⟩, segment⟩, zone⟩, role⟩ := same
  exact ⟨v, listed, low, high, segment, zone, role⟩

/-- A completed cutover keeps the pinned windows in place, or relied on MAINT. -/
theorem completeCutover_pinned (h : s.Law) (due : s.completionDue = true) {w : Window} (listed : w ∈ s.active.windows)
    (pin : w.pin = true) :
    w.Kept (completeCutover s).active.windows ∨ (s.staging = .cutting ∧ s.result.reliance = true)
      ∨ (completeCutover s).resetLow = true := by
  have cutting := cutting_of_completionDue due
  by_cases relied : s.result.reliance = true
  · exact .inr (.inl ⟨cutting, relied⟩)
  · have passes := h.pin (.inr (.inr cutting)) (by simpa using relied)
    obtain ⟨v, there, same⟩ := pinTest_window passes listed pin
    have active : (completeCutover s).active = s.staged := (completeCutover_offers h).active
    exact .inl (Window.kept_of_samePlace (active ▸ there) same)

end

/-- Settles O2: a case for each command; what a block does not name in its record updates stays. -/
theorem everyCommandAnswersNext : Obligations.EveryCommandAnswersNext := exec_pending

/-- Settles O1, by the two branches of a step. -/
theorem stepRunsFrontCommand : Obligations.StepRunsFrontCommand := by
  refine ⟨fun c rest s front => ?_, fun s none => ?_⟩
  · rw [step, front]
  · rw [step, none]

/-- Settles O14: three commands can change the active bank. A cold reset holds RESETN low; a store load starts from an empty
list; and a cutover installs a bank that passed the pin test, unless it relied on MAINT. -/
theorem pinnedWindowsSurvive : Obligations.PinnedWindowsSurvive := by
  intro s s' h hs w listed pin
  have same (eq : s'.active = s.active) : w.Kept s'.active.windows := ⟨w, eq ▸ listed, rfl, rfl, rfl, rfl, rfl⟩
  obtain ⟨-, rfl⟩ | ⟨c, rest, -, ran⟩ := step_cases hs
  · exact .inl (same rfl)
  have taken : ({ s with pending := rest } : State).Law := { h with }
  by_cases replaces : replacesPlan c = true
  · cases c with
    | coldReset =>
      cases ran
      exact .inr (.inr rfl)
    | loadCompletion =>
      have quiet (loading : s.loading = true) : False := by
        rw [h.load_active loading] at listed
        cases listed
      obtain rfl := Host.Outcome.next.inj ran
      split
      · next due => exact (quiet (by simpa [State.running] using (Bool.and_eq_true _ _ ▸ due).2)).elim
      · exact .inl ⟨w, listed, rfl, rfl, rfl, rfl, rfl⟩
    | cutoverCompletion =>
      obtain rfl := Host.Outcome.next.inj ran
      split
      · next due => exact completeCutover_pinned taken due listed pin
      · exact .inl ⟨w, listed, rfl, rfl, rfl, rfl, rfl⟩
    | _ => cases replaces
  · obtain ⟨t, eq, carries⟩ := exec_carries (by simpa using replaces) { s with pending := rest }
    rw [eq] at ran
    obtain rfl := Host.Outcome.next.inj ran
    exact .inl (same carries.active)

end Sys2Proof.Machine
end

/-! # The reset state, and what a valid plan bounds -/

section
namespace Sys2Proof.Machine

section
variable {s : State}

/-! ## The reset state -/

theorem Image.unwritten_lawful : Image.unwritten.Lawful :=
  ⟨Bank.empty_valid, Settings.default_inRange, Nat.zero_le _, fun _ => rfl⟩

theorem State.reset_law : State.reset.Law := State.law_at_reset false true false 1 (fun _ => Image.unwritten_lawful) [] 0

/-! ## Addresses in ascending order -/

theorem addresses_ascend {windows : List Window} (ascend : windows.Pairwise fun w v => w.high < v.low) (p : Window → Bool) :
    ((windows.filter p).flatMap Window.addresses).Pairwise (· < ·) := by
  refine List.pairwise_flatMap.2 ⟨fun w _ => List.pairwise_lt_range', (ascend.filter p).imp fun {w v} above x hx y hy => ?_⟩
  simp only [Window.addresses, List.mem_range'_1] at hx hy
  omega

theorem length_flatMap_addresses (p : Window → Bool) (windows : List Window) :
    ((windows.filter p).flatMap Window.addresses).length = addressesIn p windows := by
  simp [addressesIn, List.length_flatMap]

theorem map_snd_membersOfRole (windows : List Window) (z : Nat) (role : Role) :
    (membersOfRole windows z role).map Prod.snd =
      (windows.filter fun w => w.joins z && w.role == role).flatMap Window.addresses := by
  simp [membersOfRole, List.map_flatMap, Function.comp_def]

theorem membersOfRole_ascend {windows : List Window} (ascend : windows.Pairwise fun w v => w.high < v.low) (z : Nat) (role : Role) :
    ((membersOfRole windows z role).map Prod.snd).Pairwise (· < ·) := by
  rw [map_snd_membersOfRole]
  exact addresses_ascend ascend _

/-! ## At most 1,024 sensors (R99, R134) -/

/-- The role of a window is that of a sensor. -/
def Window.senses (w : Window) : Bool := w.role == .occupancySensor || w.role == .temperatureSensor

theorem addressesIn_cons (p : Window → Bool) (w : Window) (ws : List Window) :
    addressesIn p (w :: ws) = (if p w then w.size else 0) + addressesIn p ws := by
  by_cases h : p w = true <;> simp [addressesIn, h]

theorem checkSensorTotal_bound {ws : List Window} (i : Nat) {total : Nat} (few : total ≤ 1024)
    (passes : checkSensorTotal i total ws = none) : total + addressesIn Window.senses ws ≤ 1024 := by
  induction ws generalizing i total with
  | nil => simpa [addressesIn] using few
  | cons w ws ih =>
    rw [addressesIn_cons]
    simp only [checkSensorTotal] at passes
    split at passes
    · next sensor =>
      split at passes
      · cases passes
      · have rest := ih (i + 1) (by omega) passes
        have : w.senses = true := by simpa [Window.senses] using sensor
        rw [if_pos this]; omega
    · next other =>
      have rest := ih (i + 1) few passes
      have : ¬ w.senses = true := by simpa [Window.senses] using other
      rw [if_neg this]; omega

theorem Bank.Valid.few_sensors {b : Bank} (valid : b.Valid) : addressesIn Window.senses b.windows ≤ 1024 := by
  obtain ⟨-, passes⟩ := valid
  obtain ⟨-, -, -, -, -, -, total, -⟩ := (firstFailure_eq_none_iff b).1 passes
  simpa using checkSensorTotal_bound 0 (Nat.zero_le _) total

theorem State.Law.cached_address (h : s.Law) {e : CacheEntry} (cached : e ∈ s.cache) :
    e.address ∈ (s.active.windows.filter Window.senses).flatMap Window.addresses := by
  obtain ⟨⟨w, listed, role⟩, -, kind⟩ := h.cache e cached
  obtain ⟨there, low, high⟩ := (lookup_eq_some_iff_mem h.active_valid.windows_ascend).1 listed
  have senses : w.senses = true := by
    obtain ⟨is, -⟩ | ⟨is, -⟩ := kind <;> simp [Window.senses, role, is]
  refine List.mem_flatMap.2 ⟨w, List.mem_filter.2 ⟨there, senses⟩, ?_⟩
  rw [Window.addresses, List.mem_range'_1]
  omega

/-! ## At most 64 actuators (R65, R134) -/

theorem addressesIn_or {p q : Window → Bool} (apart : ∀ w, p w = true → q w = false) (ws : List Window) :
    addressesIn p ws + addressesIn q ws = addressesIn (fun w => p w || q w) ws := by
  induction ws with
  | nil => rfl
  | cons w ws ih =>
    rw [addressesIn_cons, addressesIn_cons, addressesIn_cons, ← ih]
    by_cases hp : p w = true
    · simp [hp, apart w hp]; omega
    · simp [hp]; omega

theorem Bank.Valid.few_actuators {b : Bank} (valid : b.Valid) {z : Nat} (low : 1 ≤ z) (high : z ≤ 255) :
    (membersOfRole b.windows z .luminaire).length + (membersOfRole b.windows z .damper).length ≤ 64 := by
  obtain ⟨-, passes⟩ := valid
  obtain ⟨-, -, -, -, actuators, -⟩ := (firstFailure_eq_none_iff b).1 passes
  have few := find_zoneNumbers_eq_none.1 actuators z low high
  rw [length_membersOfRole, length_membersOfRole, addressesIn_or]
  · simpa [Bool.and_or_distrib_left] using few
  · intro w
    simp +contextual

theorem mem_levelCommands {windows : List Window} {z level fade n : Nat} {c : CommandEntry} :
    (n, c) ∈ levelCommands windows z level fade ↔
      ∃ w ∈ windows, w.translate = true ∧ w.role = .luminaire ∧ w.zone = z ∧ n = w.segment
        ∧ w.low ≤ c.destination ∧ c.destination ≤ w.high ∧ c.kind = .level ∧ c.value = fixtureLevel level w.trim
        ∧ c.fade = fade ∧ c.zone = z := by
  simp only [levelCommands, List.mem_map, Prod.exists, mem_membersOfRole, Prod.mk.injEq]
  constructor
  · rintro ⟨w, a, ⟨there, translate, zone, role, low, high⟩, rfl, rfl⟩
    exact ⟨w, there, translate, role, zone, rfl, low, high, rfl, rfl, rfl, rfl⟩
  · rintro ⟨w, there, translate, role, zone, rfl, low, high, kind, value, fade, origin⟩
    refine ⟨w, c.destination, ⟨there, translate, zone, role, low, high⟩, rfl, ?_⟩
    cases c
    simp_all

theorem mem_damperCommands {windows : List Window} {z position n : Nat} {c : CommandEntry} :
    (n, c) ∈ damperCommands windows z position ↔
      ∃ w ∈ windows, w.translate = true ∧ w.role = .damper ∧ w.zone = z ∧ n = w.segment
        ∧ w.low ≤ c.destination ∧ c.destination ≤ w.high ∧ c.kind = .damper ∧ c.value = position ∧ c.fade = 0
        ∧ c.zone = z := by
  simp only [damperCommands, List.mem_map, Prod.exists, mem_membersOfRole, Prod.mk.injEq]
  constructor
  · rintro ⟨w, a, ⟨there, translate, zone, role, low, high⟩, rfl, rfl⟩
    exact ⟨w, there, translate, role, zone, rfl, low, high, rfl, rfl, rfl, rfl⟩
  · rintro ⟨w, there, translate, role, zone, rfl, low, high, kind, value, fade, origin⟩
    refine ⟨w, c.destination, ⟨there, translate, zone, role, low, high⟩, rfl, ?_⟩
    cases c
    simp_all

theorem levelCommands_ascend {windows : List Window} (ascend : windows.Pairwise fun w v => w.high < v.low) (z level fade : Nat) :
    ((levelCommands windows z level fade).map fun c => c.2.destination).Pairwise (· < ·) := by
  simpa [levelCommands, Function.comp_def] using membersOfRole_ascend ascend z .luminaire

theorem damperCommands_ascend {windows : List Window} (ascend : windows.Pairwise fun w v => w.high < v.low) (z position : Nat) :
    ((damperCommands windows z position).map fun c => c.2.destination).Pairwise (· < ·) := by
  simpa [damperCommands, Function.comp_def] using membersOfRole_ascend ascend z .damper

end

/-- Settles O3: the tables at reset hold one value throughout, and the store image, whose check is 0, is lawful whole. -/
theorem resetMeetsEveryLaw : Obligations.ResetMeetsEveryLaw := by
  have windows : ∀ b ∈ [State.reset.active, State.reset.staged], b = Bank.empty := by simp [State.reset]
  refine ⟨State.reset_law, rfl, rfl, rfl, rfl, nth_replicate 4 _, rfl, fun b hb => ?_, rfl,
    ⟨rfl, rfl, rfl, rfl, rfl, rfl, fun c => nth_replicate 21 true _, nth_replicate 4 false, rfl⟩, fun z => ?_, rfl, rfl, rfl, rfl, rfl,
    rfl, fun c => nth_replicate 21 _ _, rfl, rfl, rfl, rfl⟩
  · obtain rfl := windows b hb
    exact ⟨rfl, Bank.empty_zone, fun i => by simp [Bank.empty, ClassifierEntry.cleared]⟩
  · have zone : State.reset.zone z = .idle := nth_replicate 255 _ z
    have shadow : State.reset.shadowZone z = .idle := nth_replicate 255 _ z
    rw [zone, shadow]
    exact ⟨rfl, rfl⟩

/-- Settles O16: the entries' addresses are distinct and lie in the windows of sensor role, which hold at most 1,024. -/
theorem cacheHoldsAtMost1024 : Obligations.CacheHoldsAtMost1024 := by
  intro s h
  obtain ⟨keyed, -⟩ := h.table
  have distinct : (s.cache.map CacheEntry.address).Nodup := keyed.imp Nat.ne_of_lt
  have inside : s.cache.map CacheEntry.address ⊆ (s.active.windows.filter Window.senses).flatMap Window.addresses := by
    intro a ha
    obtain ⟨e, cached, rfl⟩ := List.mem_map.1 ha
    exact h.cached_address cached
  calc s.cache.length = (s.cache.map CacheEntry.address).length := (List.length_map _).symm
    _ ≤ _ := (List.subperm_of_subset distinct inside).length_le
    _ = addressesIn Window.senses s.active.windows := length_flatMap_addresses _ _
    _ ≤ 1024 := h.active_valid.few_sensors

/-- Settles O17: the commands are one for each member of the role, in list order, and the windows of a valid list ascend. -/
theorem issuesReachEveryActuator : Obligations.IssuesReachEveryActuator := by
  intro b z level fade position valid low high
  refine ⟨fun _ _ => mem_levelCommands, fun _ _ => mem_damperCommands, levelCommands_ascend valid.windows_ascend _ _ _,
    damperCommands_ascend valid.windows_ascend _ _, ?_⟩
  simpa [levelCommands, damperCommands] using valid.few_actuators low high

end Sys2Proof.Machine
end

/-! # The formats on the line and on the trunk (R2, R5, R175) -/

section
namespace Sys2Proof.Machine

/-! ## Bytes of a number -/

theorem byte_toNat (n : Nat) : (byte n).toNat = n % 256 := BitVec.toNat_ofNat n 8

theorem byte_of_toNat (b : Byte) : byte b.toNat = b := (BitVec.ofNat_toNat 8 b).trans (BitVec.setWidth_eq b)

theorem eq_byte {b : Byte} {n : Nat} (h : b.toNat = n % 256) : b = byte n := BitVec.eq_of_toNat_eq (by rw [h, byte_toNat])

/-- A 16-bit word is sent as its quotient and remainder by 256. -/
theorem wordBytes_eq (w : BitVec 16) : wordBytes w = [byte (w.toNat / 256), byte w.toNat] := by
  have high : w.extractLsb' 8 8 = byte (w.toNat / 256) := eq_byte (by simp [BitVec.extractLsb'_toNat, Nat.shiftRight_eq_div_pow])
  have low : w.extractLsb' 0 8 = byte w.toNat := eq_byte (by simp [BitVec.extractLsb'_toNat])
  rw [wordBytes, high, low]

/-- Bytes 0 to 6 of Table 1-2, as numbers. -/
theorem FieldFrame.bytes_eq (f : FieldFrame) :
    f.bytes =
      [byte (f.destination.toNat / 16), byte (f.destination.toNat % 16 * 16 + f.kind.toNat), byte (f.source.toNat / 16),
        byte (f.source.toNat % 16 * 16 + f.aux.toNat), f.point, byte (f.value.toNat / 256), byte f.value.toNat] := by
  have high (a : Address) : a.extractLsb' 4 8 = byte (a.toNat / 16) :=
    eq_byte (by simp [BitVec.extractLsb'_toNat, Nat.shiftRight_eq_div_pow])
  have low (a : Address) (k : BitVec 4) : a.extractLsb' 0 4 ++ k = byte (a.toNat % 16 * 16 + k.toNat) :=
    eq_byte (by
      have := k.isLt
      simp only [BitVec.toNat_append, BitVec.extractLsb'_toNat, Nat.shiftRight_zero]
      rw [← Nat.shiftLeft_add_eq_or_of_lt this, Nat.shiftLeft_eq]
      omega)
  have word := wordBytes_eq f.value
  simp only [wordBytes, List.cons.injEq, and_true] at word
  rw [FieldFrame.bytes, high, high, low, low, word.1, word.2]

theorem FieldFrame.wire_eq (f : FieldFrame) :
    f.wire = f.bytes ++ [byte ((crc16 f.bytes).toNat / 256), byte (crc16 f.bytes).toNat] := by
  rw [FieldFrame.wire, checkBytes, wordBytes_eq]

/-- Bytes 0 to 6 of Table 1-2 carry the fields they were made of. -/
theorem frameOf_bytes (f : FieldFrame) :
    frameOf (f.destination.extractLsb' 4 8) (f.destination.extractLsb' 0 4 ++ f.kind) (f.source.extractLsb' 4 8)
      (f.source.extractLsb' 0 4 ++ f.aux) f.point (f.value.extractLsb' 8 8) (f.value.extractLsb' 0 8) = f := by
  have address (a : Address) (k : BitVec 4) : a.extractLsb' 4 8 ++ (a.extractLsb' 0 4 ++ k).extractLsb' 4 4 = a := by
    ext i hi; simp; grind
  have nibble (a : Address) (k : BitVec 4) : (a.extractLsb' 0 4 ++ k).extractLsb' 0 4 = k := by
    ext i hi; simp; grind
  have word (v : BitVec 16) : v.extractLsb' 8 8 ++ v.extractLsb' 0 8 = v := by
    ext i hi; simp; grind
  simp only [frameOf, address, nibble, word]

/-! ## Reception of a field frame (R5) -/

/-- The kinds a field device sends are 1 and 2. -/
theorem deviceKind_iff : ∀ k : BitVec 4, (¬(k = 0 ∨ 6 ≤ k.toNat) ∧ ¬(k = 3 ∨ k = 4 ∨ k = 5)) ↔ k = 1 ∨ k = 2 := by decide

theorem isFieldAddress_iff {a : Nat} : isFieldAddress a = true ↔ 1 ≤ a ∧ a ≤ 4000 := by
  simp [isFieldAddress]

/-- Which nine bytes are a frame, and which frame they are. -/
theorem receiveFrame_nine (b0 b1 b2 b3 b4 b5 b6 b7 b8 : Byte) :
    let f := frameOf b0 b1 b2 b3 b4 b5 b6
    receiveFrame [b0, b1, b2, b3, b4, b5, b6, b7, b8] =
      if [b7, b8] = checkBytes [b0, b1, b2, b3, b4, b5, b6] ∧ (f.kind = 1 ∨ f.kind = 2)
          ∧ (1 ≤ f.source.toNat ∧ f.source.toNat ≤ 4000) ∧ f.destination = 0 then some f
      else none := by
  intro f
  simp only [← deviceKind_iff, ← isFieldAddress_iff, receiveFrame]
  split_ifs <;> simp_all [f]

theorem receiveFrame_of_length {bytes : List Byte} (h : bytes.length ≠ 9) : receiveFrame bytes = none := by
  unfold receiveFrame
  split
  · exact absurd rfl h
  · rfl

theorem receiveFrame_wire {f : FieldFrame} (addressed : f.destination = 0) (kind : f.kind = 1 ∨ f.kind = 2)
    (low : 1 ≤ f.source.toNat) (high : f.source.toNat ≤ 4000) : receiveFrame f.wire = some f := by
  have nine := receiveFrame_nine (f.destination.extractLsb' 4 8) (f.destination.extractLsb' 0 4 ++ f.kind)
    (f.source.extractLsb' 4 8) (f.source.extractLsb' 0 4 ++ f.aux) f.point (f.value.extractLsb' 8 8) (f.value.extractLsb' 0 8)
    ((crc16 f.bytes).extractLsb' 8 8) ((crc16 f.bytes).extractLsb' 0 8)
  rw [frameOf_bytes] at nine
  exact nine.trans (if_pos ⟨rfl, kind, ⟨low, high⟩, addressed⟩)

/-! ## The check (R2) -/

theorem crc16_eq_bits (bytes : List Byte) :
    crc16 bytes =
      (bytes.flatMap fun b => [7, 6, 5, 4, 3, 2, 1, 0].map fun i => b.getLsbD i).foldl
        (fun (r : BitVec 16) bit => if r.getLsbD 15 = bit then r <<< 1 else (r <<< 1) ^^^ 0x1021#16) 0xFFFF#16 := by
  have one (r : BitVec 16) (bit : Bool) : (if r.getLsbD 15 = bit then r <<< 1 else (r <<< 1) ^^^ 0x1021#16) = crcBit r bit := by
    have msb : r.msb = r.getLsbD 15 := BitVec.msb_eq_getLsbD_last r
    rw [crcBit, msb]
    split <;> simp_all
  simp only [one]
  rw [crc16, List.foldl_flatMap]
  simp only [List.foldl_map]
  rfl

/-! ## Trunk frames (R175) -/

theorem receiveTrunk_wire {f : TrunkFrame} (short : f.body.length ≤ 240) (low : 1 ≤ f.kind.toNat) (high : f.kind.toNat ≤ 7) :
    receiveTrunk f.wire = some f := by
  have length : (byte f.body.length).toNat = f.body.length := by rw [byte_toNat]; omega
  have covered : f.covered.length = 5 + f.body.length := by simp [TrunkFrame.covered]; omega
  have kind : ¬(f.kind = 0 ∨ 7 < f.kind.toNat) := by
    rintro (zero | above)
    · rw [zero] at low; simp at low
    · omega
  have wire : f.wire = f.destination :: f.source :: f.kind :: f.tag :: byte f.body.length :: (f.body ++ checkBytes f.covered) := rfl
  have whole : f.wire.length = 7 + f.body.length := by
    rw [TrunkFrame.wire, List.length_append, covered]; simp [checkBytes, wordBytes]; omega
  have check : f.wire.drop (5 + f.body.length) = checkBytes (f.wire.take (5 + f.body.length)) := by
    rw [TrunkFrame.wire, ← covered, List.drop_left, List.take_left]
  rw [wire] at whole check ⊢
  simp only [receiveTrunk, length]
  rw [ if_neg (not_not.2 whole), if_neg (by omega), if_neg (not_not.2 check), if_neg kind, List.take_left]

theorem TrunkFrame.wire_eq (f : TrunkFrame) :
    f.wire = f.covered ++ [byte ((crc16 f.covered).toNat / 256), byte (crc16 f.covered).toNat] := by
  rw [TrunkFrame.wire, checkBytes, wordBytes_eq]

/-- Settles O18: the fields concatenate back from the bytes they were cut into, and the register's most significant bit is bit 15. -/
theorem fieldFramesRoundTrip : Obligations.FieldFramesRoundTrip := by
  refine ⟨fun f addressed kind low high => ⟨rfl, receiveFrame_wire addressed kind low high⟩, fun f => ?_, crc16_eq_bits,
    by decide +kernel⟩
  rw [FieldFrame.wire_eq, FieldFrame.bytes_eq]

/-- Settles O19: the length byte carries the length of a body of at most 240 bytes, and so finds body and check. -/
theorem trunkFramesRoundTrip : Obligations.TrunkFramesRoundTrip := by
  intro f short low high
  refine ⟨?_, receiveTrunk_wire short low high, f.wire_eq⟩
  simp [TrunkFrame.wire, TrunkFrame.covered, checkBytes, wordBytes]
  omega

end Sys2Proof.Machine
end

/-! # Records stored with their clamps (R22, R36, R58, Table 11-7) -/

section
namespace Sys2Proof.Machine

/-! ## What a received field is -/

theorem number_twoBytes {n : Nat} (small : n < 65536) : number (byte (n / 256)) (byte n) = n := by
  rw [number, byte_toNat, byte_toNat]
  omega

theorem byte_toNat_of_lt {n : Nat} (small : n < 256) : (byte n).toNat = n := by
  rw [byte_toNat]
  omega

theorem clamp_of_mem {a b n : Nat} (low : a ≤ n) (high : n ≤ b) : clamp a b n = n := by
  rw [clamp]
  omega

theorem Role.ofCode_code (r : Role) : Role.ofCode r.code = r := by cases r <;> rfl

theorem Role.code_le (r : Role) : r.code ≤ 5 := by cases r <;> decide

theorem Role.code_ofCode : ∀ n, (Role.ofCode n).code = min n 5
  | 0 => rfl
  | 1 => rfl
  | 2 => rfl
  | 3 => rfl
  | 4 => rfl
  | n + 5 => by
    have : min (n + 5) 5 = 5 := by omega
    rw [this]
    rfl

theorem FrameClass.ofCode_code (c : FrameClass) : FrameClass.ofCode c.code = c := by cases c <;> rfl

theorem FrameClass.code_le (c : FrameClass) : c.code ≤ 10 := by cases c <;> decide

theorem FrameClass.code_ofCode : ∀ n, (FrameClass.ofCode n).code = if n ≤ 10 then n else FrameClass.ignore.code
  | 0 => rfl
  | 1 => rfl
  | 2 => rfl
  | 3 => rfl
  | 4 => rfl
  | 5 => rfl
  | 6 => rfl
  | 7 => rfl
  | 8 => rfl
  | 9 => rfl
  | 10 => rfl
  | n + 11 => by
    rw [if_neg (by omega)]
    rfl

theorem flagBits_five : ∀ a b c d e : Bool,
    (flagBits [a, b, c, d, e]).getLsbD 0 = a ∧ (flagBits [a, b, c, d, e]).getLsbD 1 = b
      ∧ (flagBits [a, b, c, d, e]).getLsbD 2 = c ∧ (flagBits [a, b, c, d, e]).getLsbD 3 = d
      ∧ (flagBits [a, b, c, d, e]).getLsbD 4 = e := by decide

theorem flagBits_three : ∀ a b c : Bool,
    (flagBits [a, b, c]).getLsbD 0 = a ∧ (flagBits [a, b, c]).getLsbD 1 = b ∧ (flagBits [a, b, c]).getLsbD 2 = c := by decide

theorem flagByte_ne_zero (b : Bool) : (flagByte b != 0) = b := by cases b <;> rfl

theorem nibble_of_byte (k : BitVec 4) : (byte k.toNat).extractLsb' 0 4 = k := by
  apply BitVec.eq_of_toNat_eq
  have := k.isLt
  rw [BitVec.extractLsb'_toNat, byte_toNat]
  simp only [Nat.shiftRight_zero]
  omega

theorem word_append (v : BitVec 16) : v.extractLsb' 8 8 ++ v.extractLsb' 0 8 = v := by
  ext i hi; simp; grind

theorem toNat_append_bytes (high low : Byte) : (high ++ low).toNat = high.toNat * 256 + low.toNat := by
  rw [BitVec.toNat_append, ← Nat.shiftLeft_add_eq_or_of_lt low.isLt, Nat.shiftLeft_eq]

theorem toNat_nibble (b : Byte) : (b.extractLsb' 0 4).toNat = b.toNat % 16 := by
  rw [BitVec.extractLsb'_toNat, Nat.shiftRight_zero]

/-! ## Records in range, stored as they stand -/

theorem storeWindow_bytes {w : Window} (h : w.InRange) : storeWindow w.bytes = some (w, false) := by
  obtain ⟨low, ascend, high, segment, segment', zone, trim, trim', weight, weight'⟩ := h
  obtain ⟨translate, forward, station, supervise, pin⟩ := flagBits_five w.translate w.forward w.station w.supervise w.pin
  have role := w.role.code_le
  have bytes : w.bytes =
      [byte (w.low / 256), byte w.low, byte (w.high / 256), byte w.high, byte w.segment, byte w.zone, byte w.role.code, byte w.trim,
        byte w.weight, flagBits [w.translate, w.forward, w.station, w.supervise, w.pin]] := rfl
  have lows : number (byte (w.low / 256)) (byte w.low) = w.low := number_twoBytes (by omega)
  have highs : number (byte (w.high / 256)) (byte w.high) = w.high := number_twoBytes (by omega)
  have top : max w.low w.high = w.high := by omega
  rw [bytes]
  simp only [storeWindow, lows, highs, clamp_of_mem low (show w.low ≤ 4000 by omega), clamp_of_mem (show 1 ≤ w.high by omega) high, top,
    byte_toNat_of_lt (show w.segment < 256 by omega), clamp_of_mem segment segment', byte_toNat_of_lt (show w.zone < 256 by omega),
    byte_toNat_of_lt (show w.role.code < 256 by omega), Role.ofCode_code, byte_toNat_of_lt (show w.trim < 256 by omega),
    clamp_of_mem trim trim', byte_toNat_of_lt (show w.weight < 256 by omega), clamp_of_mem weight weight', translate, forward, station,
    supervise, pin, bne_self_eq_false, decide_eq_false (show ¬5 < w.role.code by omega), Bool.or_self]

theorem storeZone_bytes {r : ZoneRecord} (h : r.InRange) : storeZone r.bytes = some (r, false) := by
  obtain ⟨⟨on, on'⟩, ⟨min, min'⟩, ⟨step, step'⟩, ⟨hold, hold'⟩, grace, percent, ⟨comfort, comfort'⟩, ⟨setback, setback'⟩, fade, rezone,
    alarm⟩ := h
  obtain ⟨present, autoOn, reportOnChange⟩ := flagBits_three r.present r.autoOn r.reportOnChange
  have bytes : r.bytes =
      [flagBits [r.present, r.autoOn, r.reportOnChange], byte (r.onLevel / 256), byte r.onLevel, byte (r.minOn / 256), byte r.minOn,
        byte r.step, byte r.holdTime, byte (r.graceTime / 256), byte r.graceTime, byte r.gracePercent, byte (r.comfort / 256),
        byte r.comfort, byte (r.setback / 256), byte r.setback, byte r.normalFade, byte r.rezoneFade, byte (r.spreadAlarm / 256),
        byte r.spreadAlarm] := rfl
  rw [bytes]
  simp only [storeZone, number_twoBytes (show r.onLevel < 65536 by omega), number_twoBytes (show r.minOn < 65536 by omega),
    number_twoBytes (show r.graceTime < 65536 by omega), number_twoBytes (show r.comfort < 65536 by omega),
    number_twoBytes (show r.setback < 65536 by omega), number_twoBytes (show r.spreadAlarm < 65536 by omega),
    byte_toNat_of_lt (show r.step < 256 by omega), byte_toNat_of_lt (show r.holdTime < 256 by omega),
    byte_toNat_of_lt (show r.gracePercent < 256 by omega), byte_toNat_of_lt (show r.normalFade < 256 by omega),
    byte_toNat_of_lt (show r.rezoneFade < 256 by omega), clamp_of_mem on on', clamp_of_mem min min', clamp_of_mem step step',
    clamp_of_mem hold hold', clamp_of_mem (Nat.zero_le _) grace, clamp_of_mem (Nat.zero_le _) percent, clamp_of_mem comfort comfort',
    clamp_of_mem setback setback', clamp_of_mem (Nat.zero_le _) fade, clamp_of_mem (Nat.zero_le _) rezone,
    clamp_of_mem (Nat.zero_le _) alarm, present, autoOn, reportOnChange, bne_self_eq_false, Bool.or_self]

theorem storeEntry_bytes (e : ClassifierEntry) : storeEntry e.bytes = some (e, false) := by
  have code := e.cls.code_le
  have scale : ¬1 < (flagByte e.timesTen).toNat := by cases e.timesTen <;> decide
  have bytes : e.bytes =
      [flagByte e.present, byte e.kindPattern.toNat, byte e.kindMask.toNat, e.pointPattern, e.pointMask, e.valuePattern.extractLsb' 8 8,
        e.valuePattern.extractLsb' 0 8, e.valueMask.extractLsb' 8 8, e.valueMask.extractLsb' 0 8, byte e.cls.code,
        flagByte e.timesTen] := rfl
  rw [bytes]
  simp only [storeEntry, flagByte_ne_zero, nibble_of_byte, word_append, byte_toNat_of_lt (show e.cls.code < 256 by omega),
    FrameClass.ofCode_code, decide_eq_false (show ¬10 < e.cls.code by omega), decide_eq_false scale, Bool.or_self]

/-! ## Any record, stored with its clamps -/

theorem clamp_zero (b n : Nat) : clamp 0 b n = min n b := by rw [clamp]; omega

/-- Settles O20: a clamp leaves a value in range as it is, and a correction is recorded where the stored field differs. -/
theorem storedRecordsReadBack : Obligations.StoredRecordsReadBack := by
  refine ⟨fun w h => ⟨rfl, storeWindow_bytes h⟩, fun r h => ⟨rfl, storeZone_bytes h⟩, fun e => ⟨rfl, storeEntry_bytes e⟩, ?_, ?_, ?_⟩
  · intro l1 l0 h1 h0 segment zone role trim weight attributes low high
    refine ⟨_, _, rfl, rfl, rfl, rfl, rfl, Role.code_ofCode _, rfl, rfl, rfl, rfl, rfl, rfl, rfl, ?_⟩
    have clamped : 5 < role.toNat ↔ (Role.ofCode role.toNat).code ≠ role.toNat := by rw [Role.code_ofCode]; omega
    simp only [Bool.or_eq_true, bne_iff_ne, decide_eq_true_eq, clamped, or_assoc]
    rfl
  · intro flags on1 on0 min1 min0 step hold gt1 gt0 gp c1 c0 s1 s0 nf rf sp1 sp0 two
    refine ⟨_, _, rfl, rfl, rfl, rfl, rfl, rfl, rfl, rfl, clamp_zero _ _, clamp_zero _ _, rfl, rfl, clamp_zero _ _, clamp_zero _ _,
      clamp_zero _ _, ?_⟩
    simp only [Bool.or_eq_true, bne_iff_ne, or_assoc]
    rfl
  · intro present kp km pp pm vp1 vp0 vm1 vm0 cls scale
    refine ⟨_, _, rfl, bne_iff_ne, toNat_nibble kp, toNat_nibble km, rfl, rfl, toNat_append_bytes _ _, toNat_append_bytes _ _,
      FrameClass.code_ofCode _, bne_iff_ne, ?_⟩
    simp only [Bool.or_eq_true, decide_eq_true_eq]

end Sys2Proof.Machine
end

/-! # Segment Ports and Egress Arbiters (chapters 1 and 7) -/

section
namespace Sys2Proof.Machine

section
variable {s : State} {n : Nat}

theorem put_put {α : Type} {m : Nat} (t : Vector α m) (i : Nat) (v w : α) : put (put t i v) i w = put t i w := by
  obtain _ | k := i
  · rfl
  · simp [put]

@[simp] theorem State.setSegment_setSegment (s : State) (n : Nat) (g g' : Segment) : (s.setSegment n g).setSegment n g' = s.setSegment n g' := by
  simp only [setSegment, put_put]

theorem execReceptionStart_due (running : s.resetLow = false) (low : 1 ≤ n) (high : n ≤ 4) (idle : (s.segment n).receiving = false)
    (free : (s.segment n).transmitting = none) :
    exec (.receptionStart n) s = .next (s.setSegment n { s.segment n with receiving := true }) := by
  have due : s.receptionDue n = true := by simp [State.receptionDue, State.running, running, isSegment, low, high, idle, free]
  exact congrArg Host.Outcome.next (if_pos due)

theorem execTransmitCompletion_eq (running : s.resetLow = false) (low : 1 ≤ n) (high : n ≤ 4) :
    exec (.transmitCompletion n) s = .next (s.setSegment n { s.segment n with transmitting := none }) := by
  have due : (s.running && isSegment n) = true := by simp [State.running, running, isSegment, low, high]
  exact congrArg Host.Outcome.next (if_pos due)

theorem execSegmentSilenceExpiry_due (running : s.resetLow = false) (low : 1 ≤ n) (high : n ≤ 4) {second : Second}
    (up : (s.segment n).line = .up) (last : (s.segment n).lastArrival = some second)
    (silent : s.settings.silenceLimit ≤ (s.deviceTime - second).toNat) :
    exec (.segmentSilenceExpiry n) s = .next (report .segmentDown (some n) (s.setSegment n { s.segment n with line := .down })) := by
  have due : s.silenceDue n = true := by
    have aged : s.settings.silenceLimit ≤ s.age second := silent
    simp [State.silenceDue, State.running, running, isSegment, low, high, up, last, aged]
  exact congrArg Host.Outcome.next (if_pos due)

/-! ## Reception (R5, R6) -/

theorem execReceptionCompletion_due (running : s.resetLow = false) (low : 1 ≤ n) (high : n ≤ 4)
    (receiving : (s.segment n).receiving = true) (bytes : List Byte) :
    exec (.receptionCompletion n bytes) s =
      .next
        (match receiveFrame bytes with
          | some f => arrive n f (s.setSegment n { s.segment n with receiving := false })
          | none => discardMalformed n (s.setSegment n { s.segment n with receiving := false })) := by
  have due : (s.running && isSegment n && (s.segment n).receiving) = true := by
    simp [State.running, running, isSegment, low, high, receiving]
  refine congrArg Host.Outcome.next ((if_pos due).trans ?_)
  rfl

/-- A burst that R5 calls malformed carries no frame. -/
theorem receiveFrame_malformed {bytes : List Byte}
    (malformed : bytes.length ≠ 9 ∨ ∃ b0 b1 b2 b3 b4 b5 b6 b7 b8, bytes = [b0, b1, b2, b3, b4, b5, b6, b7, b8]
      ∧ ([b7, b8] ≠ checkBytes [b0, b1, b2, b3, b4, b5, b6]
        ∨ ((frameOf b0 b1 b2 b3 b4 b5 b6).kind ≠ 1 ∧ (frameOf b0 b1 b2 b3 b4 b5 b6).kind ≠ 2)
        ∨ (frameOf b0 b1 b2 b3 b4 b5 b6).source = 0 ∨ 4001 ≤ (frameOf b0 b1 b2 b3 b4 b5 b6).source.toNat
        ∨ (frameOf b0 b1 b2 b3 b4 b5 b6).destination ≠ 0)) : receiveFrame bytes = none := by
  obtain long | ⟨b0, b1, b2, b3, b4, b5, b6, b7, b8, rfl, wrong⟩ := malformed
  · exact receiveFrame_of_length long
  · rw [receiveFrame_nine]
    refine if_neg ?_
    rintro ⟨check, kind, ⟨low, high⟩, addressed⟩
    obtain wrong | ⟨first, second⟩ | zero | above | wrong := wrong
    · exact wrong check
    · exact kind.elim first second
    · rw [zero] at low; simp at low
    · omega
    · exact wrong addressed

theorem discardMalformed_eq (low : 1 ≤ n) (high : n ≤ 4) :
    discardMalformed n (s.setSegment n { s.segment n with receiving := false }) =
      report .malformedFrame (some n)
        (s.setSegment n { s.segment n with receiving := false, malformed := advanceCount (s.segment n).malformed }) := by
  simp only [discardMalformed, State.segment_setSegment_same s _ low high, State.setSegment_setSegment]

/-- A record offered to a port: the queue and the hold-off rule, or the overflow. -/
theorem offerRecord_segment (low : 1 ≤ n) (high : n ≤ 4) (r : IngressRecord) :
    (offerRecord n r s).segment n =
      (let g := s.segment n
       let room := g.ingress.length < 128
       let rises := g.ingress.length = 63 ∧ g.hold = .released
       { g with
         ingress := if room then g.ingress ++ [r] else g.ingress
         overflow := if room then g.overflow else advanceCount g.overflow
         hold := if rises then .held else g.hold
         control := if rises then some .hold else g.control }) := by
  simp only [offerRecord]
  split
  · next room =>
    rw [State.segment_setSegment_same _ _ low high, Segment.afterAppend]
    by_cases rises : (s.segment n).ingress.length = 63 ∧ (s.segment n).hold = .released
    · simp [rises, Segment.holdOff, Segment.request]
    · simp only [rises, if_false]
      rw [if_neg (by simpa using rises)]
  · next full =>
    have rises : ¬((s.segment n).ingress.length = 63 ∧ (s.segment n).hold = .released) := fun h => full (by omega)
    simp [State.segment_setSegment_same _ _ low high, rises]

theorem offerRecord_frame (n : Nat) (r : IngressRecord) (s : State) :
    offerRecord n r s =
      { s with
        segments := (offerRecord n r s).segments, notices := (offerRecord n r s).notices
        uplink := { s.uplink with notices := (offerRecord n r s).uplink.notices } } := by
  simp only [offerRecord]
  split
  · rfl
  · exact report_frame _ _ _

theorem offerRecord_notice (n : Nat) (r : IngressRecord) (s : State) (c : Condition) :
    (offerRecord n r s).notice c =
      if c = .ingressOverflow ∧ ¬(s.segment n).ingress.length < 128 then (s.notice c).reported (some n) else s.notice c := by
  simp only [offerRecord]
  split
  · next room => simp [room]
  · next full =>
    rw [notice_report]
    by_cases same : c = .ingressOverflow <;> simp [same, full]

theorem offerRecord_other (r : IngressRecord) {m : Nat} (other : m ≠ n) : (offerRecord n r s).segment m = s.segment m := by
  simp only [offerRecord]
  split <;> simp [other]

/-- A port that has counted a valid frame, before its record is offered (R6 steps 1 to 3). -/
def counted (n : Nat) (s : State) : State :=
  let g := s.segment n
  let t := s.setSegment n { g with received := advanceCount g.received, lastArrival := some s.deviceTime, line := .up }
  if g.line = .down then report .segmentUp (some n) t else t

theorem arrive_eq (n : Nat) (f : FieldFrame) (s : State) :
    arrive n f s = offerRecord n { frame := f, segment := n, second := s.deviceTime } (counted n s) := rfl

theorem counted_segment (low : 1 ≤ n) (high : n ≤ 4) :
    (counted n s).segment n =
      { s.segment n with received := advanceCount (s.segment n).received, lastArrival := some s.deviceTime, line := .up } := by
  simp only [counted]
  split <;> simp [State.segment_setSegment_same _ _ low high]

theorem counted_other {m : Nat} (other : m ≠ n) : (counted n s).segment m = s.segment m := by
  simp only [counted]
  split <;> simp [other]

theorem counted_notice (n : Nat) (s : State) (c : Condition) :
    (counted n s).notice c =
      if c = .segmentUp ∧ (s.segment n).line = .down then (s.notice c).reported (some n) else s.notice c := by
  simp only [counted]
  split
  · next down =>
    rw [notice_report]
    by_cases same : c = .segmentUp <;> simp [same, down]
  · next up => simp [up]

theorem counted_frame (n : Nat) (s : State) :
    counted n s =
      { s with
        segments := (counted n s).segments, notices := (counted n s).notices
        uplink := { s.uplink with notices := (counted n s).uplink.notices } } := by
  simp only [counted]
  split
  · exact report_frame _ _ _
  · rfl

/-! ## The take (R10, R13) -/

theorem takeOrder_eq {p : Nat} (low : 1 ≤ p) : takeOrder p = [0, 1, 2, 3].map fun k => (p - 1 + k) % 4 + 1 := by
  simp only [takeOrder]
  refine List.map_congr_left fun k _ => ?_
  omega

theorem takeFrom_eq {k : Nat} (pointer : 1 ≤ s.engine.pointer) (small : k < 4) (serves : n = (s.engine.pointer - 1 + k) % 4 + 1)
    (holds : (s.segment n).ingress ≠ [])
    (empty : ∀ j, j < k → (s.segment ((s.engine.pointer - 1 + j) % 4 + 1)).ingress = []) : s.takeFrom = some n := by
  have four : [0, 1, 2, 3] = List.range 4 := rfl
  rw [State.takeFrom, takeOrder_eq pointer, four, List.find?_map, List.find?_range_eq_some.2, Option.map_some, ← serves]
  refine ⟨by simpa [← serves] using holds, by simpa using small, fun j below => ?_⟩
  simp [empty j below]

end

/-- Settles O21: each event's condition holds, so its block writes the one segment. -/
theorem lineStartsEndsAndFallsSilent : Obligations.LineStartsEndsAndFallsSilent := by
  intro s n running low high
  exact ⟨execReceptionStart_due running low high, execTransmitCompletion_eq running low high,
    fun _ up last silent => execSegmentSilenceExpiry_due running low high up last silent,
    fun g => ⟨State.segment_setSegment_same s g low high, fun m other => State.segment_setSegment_other s g other⟩⟩

/-- Settles O22: each malformation fails one test of the reception, and the port's two writes are one. -/
theorem malformedBurstIsCountedAndDropped : Obligations.MalformedBurstIsCountedAndDropped := by
  intro s n bytes running low high receiving malformed
  rw [execReceptionCompletion_due running low high receiving, receiveFrame_malformed malformed]
  exact congrArg Host.Outcome.next (discardMalformed_eq low high)

/-- Settles O23: the nine bytes are received as their frame, the port counts it, and its record is offered. -/
theorem validFrameArrives : Obligations.ValidFrameArrives := by
  intro s n f running low high receiving addressed kind first last
  refine ⟨_, by rw [execReceptionCompletion_due running low high receiving, receiveFrame_wire addressed kind first last], ?_⟩
  dsimp only
  rw [arrive_eq]
  have started := State.segment_setSegment_same s { s.segment n with receiving := false } low high
  refine ⟨⟨?_, ?_, ?_⟩, fun m other => ?_, fun c notUp notOverflow => ?_, ?_, ?_⟩
  · rw [offerRecord_segment low high, counted_segment low high, started]
    rfl
  · rw [offerRecord_notice, if_neg (by simp), counted_notice, started]
    simp
  · rw [offerRecord_notice, counted_notice, counted_segment low high, started]
    by_cases room : (s.segment n).ingress.length < 128 <;> simp [room]
  · rw [offerRecord_other _ other, counted_other other, State.segment_setSegment_other s _ other]
  · rw [offerRecord_notice, if_neg (by simp [notOverflow]), counted_notice, if_neg (by simp [notUp])]
    rfl
  · rw [offerRecord_frame, counted_frame]
    rfl
  · rw [offerRecord_frame, counted_frame]
    rfl

/-- Settles O25: the search in cyclic order stops at the first segment with a record, whose head it takes. -/
theorem takeServesFromPointer : Obligations.TakeServesFromPointer := by
  intro s k n r rest running loaded gate free pointer small serves head empty
  have low : 1 ≤ n := by omega
  have high : n ≤ 4 := by omega
  have serving := takeFrom_eq pointer small serves (by simp [head]) empty
  have due : s.takeDue = true := by
    have waits : segmentNumbers.any (fun m => !(s.segment m).ingress.isEmpty) = true :=
      List.any_eq_true.2 ⟨n, mem_segmentNumbers.2 ⟨low, high⟩, by simp [head]⟩
    simp [State.takeDue, State.running, running, loaded, gate, free, waits]
  refine ⟨takeRecord n r rest s, ?_, ?_, fun m other => State.segment_setSegment_other s _ other, rfl, rfl⟩
  · refine congrArg Host.Outcome.next ((if_pos due).trans ?_)
    rw [serving]
    dsimp only
    rw [head]
  · refine (State.segment_setSegment_same s _ low high).trans ?_
    simp only [Segment.afterTake]
    split <;> simp_all [Segment.letGo, Segment.request]

/-- Settles O26: the three outcomes of an offer, told apart by what waits. -/
theorem offeredCommandCoalescesAppendsOrDrops : Obligations.OfferedCommandCoalescesAppendsOrDrops := by
  intro s n c low high zone zone'
  have offered := offerCommand_cases n c s
  obtain ⟨waits, same⟩ | ⟨none, room, joins⟩ | ⟨none, full, drops⟩ := acceptCommand_cases (s.segment n).commands c
  · refine ⟨fun _ => ?_, fun free => ?_⟩
    · simpa [same] using offered
    · obtain ⟨x, hx, agrees⟩ := waits
      exact absurd agrees (free x hx)
  · refine ⟨fun ⟨x, hx, agrees⟩ => absurd agrees (none x hx), fun _ => ⟨fun _ => ?_, fun full => by omega⟩⟩
    simpa [joins] using offered
  · refine ⟨fun ⟨x, hx, agrees⟩ => absurd agrees (none x hx), fun _ => ⟨fun room => by omega, fun _ => ?_⟩⟩
    have dropped : offerCommand n c s =
        (report .commandOverflow (some n) s).setZone c.zone { s.zone c.zone with outputIncomplete := true } := by
      simpa [drops] using offered
    rw [dropped]
    exact ⟨rfl, by rw [State.zone_setZone_same _ _ zone zone'], fun y other => State.zone_setZone_other _ _ other⟩

end Sys2Proof.Machine
end

/-! # The Egress Arbiter's frames, and what an issue changes -/

section
namespace Sys2Proof.Machine

section
variable {s t u : State} {n : Nat}

/-! ## The frames sent (Tables 1-2 and 1-3) -/

/-- The nine bytes of Table 1-2 that carry these fields. -/
def lineBytes (destination kind source aux point value : Nat) : List Byte :=
  let covered :=
    [byte (destination / 16), byte (destination % 16 * 16 + kind), byte (source / 16), byte (source % 16 * 16 + aux),
      byte point, byte (value / 256), byte value]
  covered ++ [byte ((crc16 covered).toNat / 256), byte (crc16 covered).toNat]

theorem FieldFrame.wire_eq_lineBytes (f : FieldFrame) :
    f.wire = lineBytes f.destination.toNat f.kind.toNat f.source.toNat f.aux.toNat f.point.toNat f.value.toNat := by
  rw [wire_eq, bytes_eq, lineBytes, byte_of_toNat]

theorem ControlFrame.wire_hold : ControlFrame.hold.frame.wire = lineBytes 4095 4 4095 0 0 0 := FieldFrame.wire_eq_lineBytes _

theorem ControlFrame.wire_release : ControlFrame.release.frame.wire = lineBytes 4095 5 4095 0 0 0 := FieldFrame.wire_eq_lineBytes _

/-- The frame of a command in range carries its destination, fade and value whole. -/
theorem CommandEntry.wire_eq {c : CommandEntry} (h : c.InRange) :
    c.frame.wire = lineBytes c.destination 3 4095 c.fade c.kind.point.toNat c.value := by
  obtain ⟨⟨-, destination⟩, value, fade, -⟩ := h
  have destination' : (BitVec.ofNat 12 c.destination).toNat = c.destination := by rw [BitVec.toNat_ofNat]; omega
  have fade' : (BitVec.ofNat 4 c.fade).toNat = c.fade := by rw [BitVec.toNat_ofNat]; omega
  have value' : (BitVec.ofNat 16 c.value).toNat = c.value := by rw [BitVec.toNat_ofNat]; omega
  rw [FieldFrame.wire_eq_lineBytes]
  simp only [CommandEntry.frame, destination', fade', value']
  rfl

theorem execTransmissionStart_due (running : s.resetLow = false) (low : 1 ≤ n) (high : n ≤ 4)
    (free : (s.segment n).transmitting = none) (idle : (s.segment n).receiving = false)
    (waits : (s.segment n).control ≠ none ∨ (s.segment n).commands ≠ [] ∨ (s.segment n).stations ≠ []) {g : Segment}
    (starts : (s.segment n).startNext s.settings.burstAllowance = g) :
    exec (.transmissionStart n) s = .next (s.setSegment n g) := by
  have something : ((s.segment n).control.isSome || !(s.segment n).commands.isEmpty || !(s.segment n).stations.isEmpty) = true := by
    simpa [Option.isSome_iff_ne_none, or_assoc] using waits
  have due : s.startDue n = true := by
    simp [State.startDue, State.running, running, isSegment, low, high, free, idle, something]
  exact starts ▸ congrArg Host.Outcome.next (if_pos due)

theorem Segment.startNext_of_control {g : Segment} {c : ControlFrame} (control : g.control = some c) (allowance : Nat) :
    g.startNext allowance = { g with control := none, transmitting := some c.frame.wire } := by
  simp only [startNext, control]

theorem Segment.startNext_of_command_alone {g : Segment} {c : CommandEntry} {cs : List CommandEntry} (control : g.control = none)
    (commands : g.commands = c :: cs) (stations : g.stations = []) (allowance : Nat) :
    g.startNext allowance = { g with commands := cs, burst := 0, transmitting := some c.frame.wire } := by
  simp [startNext, control, commands, stations, startCommand]

theorem Segment.startNext_of_station {g : Segment} {f : FieldFrame} {fs : List FieldFrame} {allowance : Nat} (control : g.control = none)
    (stations : g.stations = f :: fs) (turn : g.commands = [] ∨ allowance ≤ g.burst) :
    g.startNext allowance = { g with stations := fs, burst := 0, transmitting := some f.wire } := by
  cases waits : g.commands with
  | nil => simp [startNext, control, waits, stations, startStation]
  | cons c cs =>
    have spent : allowance ≤ g.burst := turn.resolve_left (by simp [waits])
    simp [startNext, control, waits, stations, startStation, spent]

theorem Segment.startNext_of_command {g : Segment} {c : CommandEntry} {cs : List CommandEntry} {allowance : Nat}
    (control : g.control = none) (commands : g.commands = c :: cs) (stations : g.stations ≠ []) (turn : g.burst < allowance) :
    g.startNext allowance = { g with commands := cs, burst := g.burst + 1, transmitting := some c.frame.wire } := by
  obtain ⟨f, fs, waits⟩ := List.exists_cons_of_ne_nil stations
  simp only [startNext, control, commands, waits]
  rw [if_neg (by omega)]
  simp [startCommand, waits, control]

/-! ## What an issue changes (R65, R71) -/

/-- What offers of zone `z`'s commands may change. -/
structure State.Issues (z : Nat) (s t : State) : Prop where
  frame : t = { s with segments := t.segments, notices := t.notices, uplink := t.uplink, zones := t.zones }
  segment : ∀ n, t.segment n = { s.segment n with commands := (t.segment n).commands }
  other : ∀ y, y ≠ z → t.zone y = s.zone y
  zone : t.zone z = { s.zone z with outputIncomplete := (t.zone z).outputIncomplete }
  marked : (s.zone z).outputIncomplete = true → (t.zone z).outputIncomplete = true
  notice : ∀ c, c ≠ .commandOverflow → t.notice c = s.notice c
  uplink : t.uplink = { s.uplink with notices := t.uplink.notices }

theorem State.Issues.refl (z : Nat) (s : State) : s.Issues z s :=
  ⟨rfl, fun _ => rfl, fun _ _ => rfl, rfl, id, fun _ _ => rfl, rfl⟩

theorem State.Issues.trans {z : Nat} (h : s.Issues z t) (k : t.Issues z u) : s.Issues z u where
  frame := by rw [k.frame, h.frame]
  segment n := by rw [k.segment, h.segment]
  other y ne := (k.other y ne).trans (h.other y ne)
  zone := by rw [k.zone, h.zone]
  marked := k.marked ∘ h.marked
  notice c ne := (k.notice c ne).trans (h.notice c ne)
  uplink := by rw [k.uplink, h.uplink]

theorem State.Issues.offerCommand (n : Nat) (c : CommandEntry) (s : State) : s.Issues c.zone (offerCommand n c s) := by
  obtain ⟨q, -, eq⟩ | ⟨-, eq⟩ := offerCommand_cases n c s
  · rw [eq]
    refine ⟨rfl, fun m => ?_, fun _ _ => rfl, rfl, id, fun _ _ => rfl, rfl⟩
    rw [State.segment_setSegment]
    split
    · next same => obtain ⟨rfl, -⟩ := same; rfl
    · rfl
  · rw [eq]
    refine ⟨rfl, fun _ => rfl, fun y ne => State.zone_setZone_other _ _ ne, ?_, fun marked => ?_, fun d ne => ?_, report_uplink _ _ _⟩
    · rw [State.zone_setZone]
      split <;> rfl
    · rw [State.zone_setZone]
      split
      · rfl
      · exact marked
    · rw [State.notice_setZone, notice_report, if_neg ne]

theorem State.Issues.offerCommands {z : Nat} {cs : List (Nat × CommandEntry)} (s : State) (own : ∀ c ∈ cs, c.2.zone = z) :
    s.Issues z (offerCommands cs s) :=
  offerCommands_induction cs s (.refl z s) fun t c mem h => h.trans (own c mem ▸ .offerCommand c.1 c.2 t)

theorem State.Issues.levelIssue (z fade : Nat) (s : State) : s.Issues z (levelIssue z fade s) :=
  .offerCommands s fun _ mem => (levelCommands_zone mem).1

theorem State.Issues.damperIssue (z : Nat) (s : State) : s.Issues z (damperIssue z s) := by
  obtain ⟨-, eq⟩ | ⟨p, -, eq⟩ := damperIssue_cases z s
  · rw [eq]; exact .refl z s
  · exact eq ▸ .offerCommands s fun _ mem => (damperCommands_zone mem).1

end

/-- Settles O24: the arbiter's four branches, and a command's fields in range are carried whole by its frame. -/
theorem arbiterChoosesControlThenByBurst : Obligations.ArbiterChoosesControlThenByBurst := by
  intro s n inRange running low high free idle line control command delivered
  have sends {c : CommandEntry} (waits : c ∈ (s.segment n).commands) : some c.frame.wire = command c := by
    have fields := inRange n c waits
    rw [CommandEntry.wire_eq fields]
    obtain ⟨-, -, -, damper, -⟩ := fields
    cases kind : c.kind with
    | level => simp only [command, kind]; rfl
    | damper => simp only [command, kind, damper kind]; rfl
  refine ⟨fun c requested => ?_, fun c cs none waits alone => ?_, fun f fs none waits turn => ?_, fun c cs none waits contends turn => ?_⟩
  · refine execTransmissionStart_due running low high free idle (.inl (by simp [requested])) ?_
    rw [Segment.startNext_of_control requested]
    cases c
    · rw [ControlFrame.wire_hold]; rfl
    · rw [ControlFrame.wire_release]; rfl
  · rw [← sends (by simp [waits])]
    exact execTransmissionStart_due running low high free idle (.inr (.inl (by simp [waits])))
      (Segment.startNext_of_command_alone none waits alone _)
  · have sent : some f.wire = delivered f := congrArg some f.wire_eq_lineBytes
    rw [← sent]
    exact execTransmissionStart_due running low high free idle (.inr (.inr (by simp [waits])))
      (Segment.startNext_of_station none waits turn)
  · rw [← sends (by simp [waits])]
    exact execTransmissionStart_due running low high free idle (.inr (.inl (by simp [waits])))
      (Segment.startNext_of_command none waits contends turn)

/-- Settles O27: each offer of a zone's command keeps the frame, and offers compose. -/
theorem issuesChangeOnlyQueuesAndTheirZone : Obligations.IssuesChangeOnlyQueuesAndTheirZone := by
  refine ⟨fun s z fade => ⟨rfl, fun p known => ?_, fun absent => ?_⟩, fun s t z fade issue => ?_⟩
  · simp only [damperIssue, known]; rfl
  · simp only [damperIssue, absent]
  · have issues : s.Issues z t := by
      obtain rfl | rfl := issue
      · exact .levelIssue z fade s
      · exact .damperIssue z s
    exact ⟨issues.frame, issues.segment, issues.other, issues.zone, issues.marked, issues.notice, issues.uplink⟩

end Sys2Proof.Machine
end

/-! # The occupancy machine, the Notice Unit and the readings, case by case -/

section
namespace Sys2Proof.Machine

/-! ## The classes at a zone (Table 5-1) -/

section
variable {z u : ZoneState} {r : ZoneRecord}

theorem ZoneRecord.bound_of_mem {l : Nat} (low : r.minOn ≤ l) (high : l ≤ 1000) : r.bound l = l := r.bound_of_lawful fun _ => ⟨low, high⟩

theorem ZoneRecord.InRange.onLevel_le (h : r.InRange) : r.onLevel ≤ 1000 := by
  obtain ⟨⟨-, high⟩, -⟩ := h
  exact high

theorem ZoneRecord.bound_onLevel (record : r.InRange) (levels : r.minOn ≤ r.onLevel) : r.bound r.onLevel = r.onLevel :=
  r.bound_of_mem levels record.onLevel_le

theorem ZoneRecord.bound_minOn (record : r.InRange) : r.bound r.minOn = r.minOn := r.bound_of_mem le_rfl record.minOn_le

theorem ZoneState.LevelLaw.bound_preGrace (h : z.LevelLaw r) : r.bound z.preGrace = z.preGrace := by
  obtain ⟨-, -, preGrace, -⟩ := h
  exact r.bound_of_lawful preGrace

/-- What a PRESENCE leaves of a zone's record (R87). -/
def ZoneState.seen (z : ZoneState) (r : ZoneRecord) : ZoneState :=
  { z with
    occupancy := .occupied
    hold := r.holdTime * 60
    expiring := false
    level :=
      match z.occupancy with
      | .vacant => if r.autoOn then r.onLevel else 0
      | .occupied => z.level
      | .grace => z.preGrace }

theorem ZoneState.onPresence_eq_seen (record : r.InRange) (levels : r.minOn ≤ r.onLevel) (h : z.LevelLaw r) : z.onPresence r = z.seen r := by
  have on := ZoneRecord.bound_onLevel record levels
  have back := h.bound_preGrace
  cases occupancy : z.occupancy with
  | vacant => cases auto : r.autoOn <;> simp [onPresence, seen, occupancy, withLevel, occupy, restart, ZoneRecord.fullHold, auto, on]
  | occupied => simp [onPresence, seen, occupancy, restart, ZoneRecord.fullHold]
  | grace => simp [onPresence, seen, occupancy, withLevel, occupy, restart, ZoneRecord.fullHold, back]

/-- The presses in OCCUPIED, each field as the manual gives it (R91, R92). -/
theorem ZoneState.pressOccupied_eq (record : r.InRange) (levels : r.minOn ≤ r.onLevel) (lit : u.level ≠ 0 → r.minOn ≤ u.level ∧ u.level ≤ 1000)
    (low : -300 ≤ u.offset) (high : u.offset ≤ 300) :
    u.pressOccupied r .keyOn = { u with level := r.onLevel } ∧ u.pressOccupied r .keyOff = { u with level := 0 }
      ∧ u.pressOccupied r .keyRaise = { u with level := if u.level = 0 then r.minOn else min (u.level + r.step) 1000 }
      ∧ u.pressOccupied r .keyLower = { u with level := if u.level = 0 then 0 else max (u.level - r.step) r.minOn }
      ∧ u.pressOccupied r .setWarmer = { u with offset := min 300 (u.offset + 50) }
      ∧ u.pressOccupied r .setCooler = { u with offset := max (-300) (u.offset - 50) } := by
  have most := record.minOn_le
  refine ⟨?_, rfl, ?_, ?_, ?_, ?_⟩
  · simp only [pressOccupied, withLevel, ZoneRecord.bound_onLevel record levels]
  · simp only [pressOccupied, withLevel]
    split
    · rw [ZoneRecord.bound_minOn record]
    · next dark => rw [r.bound_of_mem (by have := lit dark; omega) (by omega)]
  · simp only [pressOccupied]
    split
    · next dark => rw [← dark]
    · next dark => rw [withLevel, r.bound_of_mem (by omega) (by have := lit dark; omega)]
  · simp only [pressOccupied, stepOffset, saturate]
    congr 1
    omega
  · simp only [pressOccupied, stepOffset, saturate]
    congr 1
    omega

theorem ZoneState.pressVacant_eq (record : r.InRange) (levels : r.minOn ≤ r.onLevel) (h : z.LevelLaw r) (vacant : z.occupancy = .vacant) :
    let u : ZoneState := { z with occupancy := .occupied, hold := r.holdTime * 60, expiring := false }
    z.pressVacant r .keyOn = { u with level := r.onLevel } ∧ z.pressVacant r .keyOff = z
      ∧ z.pressVacant r .keyRaise = { u with level := r.minOn } ∧ z.pressVacant r .keyLower = u
      ∧ z.pressVacant r .setWarmer = { u with offset := 50 } ∧ z.pressVacant r .setCooler = { u with offset := -50 } := by
  obtain ⟨dark, -⟩ := h
  obtain ⟨level, -⟩ := dark vacant
  simp only [pressVacant, withLevel, occupy, restart, ZoneRecord.fullHold, ZoneRecord.bound_onLevel record levels,
    ZoneRecord.bound_minOn record, ZoneRecord.bound_zero, level, and_self]

theorem ZoneState.onPress_of_lit (record : r.InRange) (levels : r.minOn ≤ r.onLevel) (h : z.LevelLaw r) (lit : z.occupancy ≠ .vacant)
    (c : FrameClass) :
    z.onPress r c = ZoneState.pressOccupied (if z.occupancy = .grace then z.seen r else z) r c := by
  cases occupancy : z.occupancy with
  | vacant => exact absurd occupancy lit
  | occupied => simp [onPress, occupancy]
  | grace => simp [onPress, occupancy, onPresence_eq_seen record levels h]

end

/-- Settles O32: the levels written lie in their bounds already, and a zone in GRACE is seen first and then pressed. -/
theorem keypadClassesFollowTable : Obligations.KeypadClassesFollowTable := by
  intro z r record levels h
  refine ⟨ZoneState.onPresence_eq_seen record levels h, ?_, fun vacant => ?_, fun lit => ?_⟩
  · rintro c (rfl | rfl | rfl | rfl) <;> rfl
  · have presses := ZoneState.pressVacant_eq record levels h vacant
    simpa only [ZoneState.onClass, ZoneState.onPress, vacant] using presses
  · intro u
    have eq : u = if z.occupancy = .grace then z.seen r else z := by
      by_cases grace : z.occupancy = .grace
      · simp [u, grace, ZoneState.seen]
      · simp [u, grace]
    have law : (u.level ≠ 0 → r.minOn ≤ u.level ∧ u.level ≤ 1000) ∧ -300 ≤ u.offset ∧ u.offset ≤ 300 := by
      obtain ⟨-, level, preGrace, low, high, -⟩ := h
      simp only [u]
      split
      · exact ⟨preGrace, low, high⟩
      · exact ⟨level, low, high⟩
    obtain ⟨bounds, low, high⟩ := law
    simp only [ZoneState.onClass, ZoneState.onPress_of_lit record levels h lit, ← eq]
    exact ZoneState.pressOccupied_eq record levels bounds low high

/-! ## A report of a condition (R170, R172) -/

theorem joinNotices_of_absent {q : List NoticeRecord} {r : NoticeRecord} (absent : ∀ x ∈ q, x.condition ≠ r.condition) :
    joinNotices q r = q ++ [r] := by
  rw [joinNotices, if_neg]
  simpa using absent

theorem joinNotices_of_waiting {q : List NoticeRecord} {r : NoticeRecord} (waits : ∃ x ∈ q, x.condition = r.condition) :
    joinNotices q r = q.map fun x => if x.condition = r.condition then r else x := by
  rw [joinNotices, if_pos]
  simpa using waits

theorem report_uplink_of_silent {c : Condition} {s : State} (scope : Option Nat)
    (silent : (s.notice c).pending = true ∨ s.enabled c = false ∨ s.link = .down) : (report c scope s).uplink = s.uplink := by
  simp only [report]
  refine if_neg ?_
  rintro ⟨free, enabled, up⟩
  obtain k | k | k := silent
  · rw [free] at k; cases k
  · rw [enabled] at k; cases k
  · rw [up] at k; cases k

theorem report_uplink_of_offered {c : Condition} {s : State} (scope : Option Nat) (free : (s.notice c).pending = false)
    (enabled : s.enabled c = true) (up : s.link = .up) :
    (report c scope s).uplink =
      { s.uplink with
        notices :=
          joinNotices s.uplink.notices { condition := c, scope := scope, counter := ((report c scope s).notice c).counter } } := by
  rw [notice_report, if_pos rfl, NoticeState.reported_counter]
  simp only [report]
  rw [if_pos ⟨free, enabled, up⟩]

/-- Settles O42: the record of a report by its pending flag, and the join of the notice queue by what waits in it. -/
theorem reportMakesConditionPending : Obligations.ReportMakesConditionPending := by
  intro s c scope t n record
  have after : t.notice c = n.reported scope := (notice_report c c scope s).trans (if_pos rfl)
  refine ⟨by rw [after]; exact n.reported_counter scope, by rw [after]; exact n.reported_pending scope, fun pending => ?_, fun free => ?_,
    fun d ne => (notice_report c d scope s).trans (if_neg ne), report_uplink_of_silent scope, fun free enabled up => ?_, rfl⟩
  · rw [after, NoticeState.reported, if_pos pending]
    exact ⟨rfl, rfl⟩
  · rw [after, NoticeState.reported, if_neg (by simp [free])]
    exact ⟨rfl, rfl⟩
  · have joined := report_uplink_of_offered scope free enabled up
    exact ⟨fun absent => joined.trans (by rw [joinNotices_of_absent absent]),
      fun waits => joined.trans (by rw [joinNotices_of_waiting waits])⟩

/-! ## Readings (R106 to R111) -/

section
variable {s : State}

/-- Which reading an address contributes (R106). -/
theorem State.Law.includedReading_eq_some_iff (h : s.Law) {a : Nat} {t : Int} :
    s.includedReading a = some t ↔
      ∃ e ∈ s.cache, e.address = a ∧ e.role = .temperatureSensor ∧ e.last = .reading t ∧ 0 ≤ t ∧ t ≤ 5000
        ∧ (s.deviceTime - e.second).toNat ≤ s.settings.staleLimit := by
  obtain ⟨keyed, -⟩ := h.table
  have fresh (e : CacheEntry) : s.fresh e = true ↔ (s.deviceTime - e.second).toNat ≤ s.settings.staleLimit := by
    rw [State.fresh, decide_eq_true_eq]; rfl
  have plausible (x : Int) : (Report.reading x).implausible = false ↔ 0 ≤ x ∧ x ≤ 5000 := by
    simp [Report.implausible, Machine.plausible]
  constructor
  · intro included
    unfold State.includedReading at included
    split at included
    · next e found =>
      obtain ⟨cached, address⟩ := (find_eq_some_of_ascends keyed).1 found
      obtain ⟨-, flag, -⟩ := h.cache e cached
      split at included
      · next x last =>
        split at included
        · next counts =>
          obtain ⟨role, sound, young⟩ := counts
          cases included
          rw [flag, last, plausible] at sound
          exact ⟨e, cached, address, role, last, sound.1, sound.2, (fresh e).1 young⟩
        · cases included
      · cases included
    · cases included
  · rintro ⟨e, cached, address, role, last, low, high, young⟩
    obtain ⟨-, flag, -⟩ := h.cache e cached
    have found : cacheEntry s.cache a = some e := (find_eq_some_of_ascends keyed).2 ⟨cached, address⟩
    rw [last, (plausible t).2 ⟨low, high⟩] at flag
    simp only [State.includedReading, found, last]
    exact if_pos ⟨role, flag, (fresh e).2 young⟩

/-- The addresses of a zone that contribute a reading. -/
def State.includedAddresses (s : State) (windows : List Window) (z : Nat) : List Nat :=
  ((membersOfRole windows z .temperatureSensor).filter fun m => (s.includedReading m.2).isSome).map Prod.snd

theorem State.includedAddresses_ascend {windows : List Window} (ascend : windows.Pairwise fun w v => w.high < v.low) (z : Nat) :
    (s.includedAddresses windows z).Pairwise (· < ·) :=
  (membersOfRole_ascend ascend z _).sublist (List.filter_sublist.map _)

/-- Addresses and readings go side by side. -/
theorem State.includedReadings_forall₂ (s : State) (members : List (Window × Nat)) :
    List.Forall₂ (fun a r => ∃ w, (w, a) ∈ members ∧ r.1 = w.weight ∧ s.includedReading a = some r.2)
      ((members.filter fun m => (s.includedReading m.2).isSome).map Prod.snd)
      (members.filterMap fun m => (s.includedReading m.2).map fun t => (m.1.weight, t)) := by
  induction members with
  | nil => exact .nil
  | cons m ms ih =>
    have rest := ih.imp fun a r ⟨w, mem, same⟩ => (⟨w, List.mem_cons_of_mem m mem, same⟩ :
      ∃ w, (w, a) ∈ m :: ms ∧ r.1 = w.weight ∧ s.includedReading a = some r.2)
    cases reading : s.includedReading m.2 with
    | none => simpa [reading] using rest
    | some t =>
      simp only [List.filter_cons, List.filterMap_cons, reading, Option.isSome_some, if_true, Option.map_some, List.map_cons]
      exact .cons ⟨m.1, List.mem_cons_self, rfl, reading⟩ rest

/-- The largest of the values from a start is one of them. -/
theorem foldl_max_spec {α β : Type} [LinearOrder α] (f : β → α) (xs : List β) (m : α) :
    let top := xs.foldl (fun m x => max m (f x)) m
    (top = m ∨ ∃ x ∈ xs, top = f x) ∧ m ≤ top ∧ ∀ x ∈ xs, f x ≤ top := by
  induction xs generalizing m with
  | nil => simp
  | cons x xs ih =>
    obtain ⟨attained, start, above⟩ := ih (max m (f x))
    refine ⟨?_, (le_max_left _ _).trans start, fun y hy => ?_⟩
    · obtain same | ⟨y, hy, same⟩ := attained
      · obtain first | first := max_choice m (f x)
        · exact .inl (same.trans first)
        · exact .inr ⟨x, List.mem_cons_self, same.trans first⟩
      · exact .inr ⟨y, List.mem_cons_of_mem x hy, same⟩
    · obtain rfl | hy := List.mem_cons.1 hy
      · exact (le_max_right _ _).trans start
      · exact above y hy

theorem readingSpread_spec {rs : List (Nat × Int)} (some : rs ≠ []) :
    ∃ p ∈ rs, ∃ q ∈ rs, (∀ r ∈ rs, q.2 ≤ r.2 ∧ r.2 ≤ p.2) ∧ (readingSpread rs : Int) = p.2 - q.2 := by
  obtain ⟨r, rs, rfl⟩ := List.exists_cons_of_ne_nil some
  obtain ⟨top, first, above⟩ := foldl_max_spec Prod.snd rs r.2
  obtain ⟨bottom, last, below⟩ := foldl_max_spec (α := ℤᵒᵈ) Prod.snd rs r.2
  have attained {v : Int} (h : v = r.2 ∨ ∃ x ∈ rs, v = x.2) : ∃ p ∈ r :: rs, v = p.2 := by
    obtain same | ⟨x, mem, same⟩ := h
    · exact ⟨r, List.mem_cons_self, same⟩
    · exact ⟨x, List.mem_cons_of_mem r mem, same⟩
  obtain ⟨p, hp, top⟩ := attained top
  obtain ⟨q, hq, bottom⟩ := attained bottom
  refine ⟨p, hp, q, hq, fun x hx => ?_, ?_⟩
  · rw [← top, ← bottom]
    obtain rfl | hx := List.mem_cons.1 hx
    · exact ⟨last, first⟩
    · exact ⟨below x hx, above x hx⟩
  · have ordered : q.2 ≤ p.2 := by rw [← top, ← bottom]; exact le_trans (OrderDual.toDual_le_toDual.1 last) first
    have spread : readingSpread (r :: rs) = (p.2 - q.2).toNat := by rw [← top, ← bottom]; rfl
    rw [spread]
    omega

theorem weightedMean_rounds {rs : List (Nat × Int)} (some : weightTotal rs ≠ 0) :
    2 * weightTotal rs * weightedMean rs ≤ 2 * weightedSum rs + weightTotal rs
      ∧ 2 * weightedSum rs + weightTotal rs < 2 * weightTotal rs * (weightedMean rs + 1) := by
  have pos : (0 : Int) < 2 * weightTotal rs := by omega
  exact ⟨Int.mul_ediv_self_le (by omega), (Int.lt_ediv_add_one_mul_self _ pos).trans_eq (mul_comm _ _)⟩

end

/-- Settles O43: the mean is a floored quotient, the readings are those of the members in list order, and the extremes of a list are
attained. -/
theorem weightedMeanRoundsAndStaysBetween : Obligations.WeightedMeanRoundsAndStaysBetween := by
  refine ⟨fun rs low high some bounds => ?_, ?_, fun rs => readingSpread_spec, fun z r => ⟨?_, ?_⟩⟩
  · have between : ReadingsBetween low high rs := bounds
    have weighted : weightTotal rs ≠ 0 := fun none => some ((weightTotal_eq_zero_iff between).1 none)
    obtain ⟨least, most⟩ := between.weightedMean_bounds weighted
    exact ⟨least, most, weightedMean_rounds weighted⟩
  · intro s b z h valid member included
    have members (w : Window) (a : Nat) : (w, a) ∈ membersOfRole b.windows z .temperatureSensor ↔ member w a := by
      rw [mem_membersOfRole]
      constructor
      · rintro ⟨there, translate, zone, role, inside⟩; exact ⟨there, translate, role, zone, inside⟩
      · rintro ⟨there, translate, role, zone, inside⟩; exact ⟨there, translate, zone, role, inside⟩
    have reading (a : Nat) (t : Int) : s.includedReading a = some t ↔ included a t := h.includedReading_eq_some_iff
    refine ⟨s.includedAddresses b.windows z, State.includedAddresses_ascend valid.windows_ascend z, fun a => ?_, ?_⟩
    · simp only [State.includedAddresses, List.mem_map, List.mem_filter, Option.isSome_iff_exists, reading, Prod.exists,
        exists_eq_right, members]
      exact ⟨fun ⟨w, there, t, counts⟩ => ⟨w, t, there, counts⟩, fun ⟨w, t, there, counts⟩ => ⟨w, there, t, counts⟩⟩
    · refine (State.includedReadings_forall₂ s _).imp fun a r => ?_
      rintro ⟨w, there, weight, counts⟩
      exact ⟨w, (members w a).1 there, weight, (reading a r.2).1 counts⟩
  · simp [ZoneState.spreadAlarm]
  · rw [ZoneState.setpoint, saturate, min_comm]
    cases occupancy : z.occupancy <;> simp

end Sys2Proof.Machine
end

/-! # Events at a zone, and the timers (chapter 5) -/

section
namespace Sys2Proof.Machine

section
variable {s t u : State} {z : Nat}

/-! ## What an event changes (R79) -/

/-- What an event at zone `z` may change. -/
structure State.Acts (z : Nat) (s t : State) : Prop where
  frame : t = { s with segments := t.segments, notices := t.notices, uplink := t.uplink, zones := t.zones }
  segment : ∀ n, t.segment n = { s.segment n with commands := (t.segment n).commands }
  other : ∀ y, y ≠ z → t.zone y = s.zone y
  notice : ∀ c, c ≠ .commandOverflow → t.notice c = s.notice c
  uplink : t.uplink = { s.uplink with notices := t.uplink.notices, reports := t.uplink.reports }

theorem State.Acts.trans (h : s.Acts z t) (k : t.Acts z u) : s.Acts z u where
  frame := by rw [k.frame, h.frame]
  segment n := by rw [k.segment, h.segment]
  other y ne := (k.other y ne).trans (h.other y ne)
  notice c ne := (k.notice c ne).trans (h.notice c ne)
  uplink := by rw [k.uplink, h.uplink]

theorem State.Acts.of_issues (h : s.Issues z t) : s.Acts z t :=
  ⟨h.frame, h.segment, h.other, h.notice, by rw [h.uplink]⟩

theorem State.Acts.setZone (s : State) (z : Nat) (v : ZoneState) : s.Acts z (s.setZone z v) :=
  ⟨rfl, fun _ => rfl, fun _ ne => State.zone_setZone_other s v ne, fun _ _ => rfl, rfl⟩

theorem State.Acts.queueReport (z : Nat) (s : State) : s.Acts z (queueReport z s) :=
  ⟨rfl, fun _ => rfl, fun _ ne => nth_put_other _ _ _ ne, fun _ _ => rfl, rfl⟩

theorem ZoneState.SameButFlags.refl (v : ZoneState) : v.SameButFlags v := rfl

theorem ZoneState.SameButFlags.trans {a b c : ZoneState} (h : a.SameButFlags b) (k : b.SameButFlags c) : a.SameButFlags c := by
  rw [SameButFlags] at h k ⊢
  rw [k, h]

theorem State.Issues.sameButFlags (h : s.Issues z t) : (s.zone z).SameButFlags (t.zone z) := by
  rw [ZoneState.SameButFlags, h.zone]

theorem queueReport_sameButFlags (low : 1 ≤ z) (high : z ≤ 255) (s : State) : (s.zone z).SameButFlags ((queueReport z s).zone z) := by
  have zone : (Machine.queueReport z s).zone z = { s.zone z with reportPending := true } := nth_put_same _ _ _ low high
  rw [zone]
  rfl

theorem ZoneState.SameButFlags.occupancy {a b : ZoneState} (h : a.SameButFlags b) : b.occupancy = a.occupancy := by
  rw [SameButFlags] at h
  rw [h]

/-- An event, with the level issue made or not. -/
theorem reportOnChange_eq {issued : State} (low : 1 ≤ z) (high : z ≤ 255) {after : ZoneState} (issues : (s.setZone z after).Issues z issued) :
    reportOnChange (s.zone z).occupancy z issued =
      if after.occupancy = (s.zone z).occupancy ∨ (s.record z).reportOnChange = false then issued else queueReport z issued := by
  have occupancy := issues.sameButFlags.occupancy
  have active : issued.active = s.active := (congrArg State.active issues.frame :)
  rw [State.zone_setZone_same _ _ low high] at occupancy
  rw [reportOnChange, State.record, active, occupancy, ← State.record]
  by_cases same : after.occupancy = (s.zone z).occupancy
  · rw [if_neg (by simp [same]), if_pos (.inl same)]
  · by_cases reports : (s.record z).reportOnChange = true
    · rw [if_pos ⟨same, reports⟩, if_neg (by simp [same, reports])]
    · rw [if_neg (by simp [reports]), if_pos (.inr (by simpa using reports))]

theorem zoneEvent_eq_afterEvent (low : 1 ≤ z) (high : z ≤ 255) (after : ZoneState) (s : State) :
    zoneEvent z after s = s.afterEvent z after := by
  unfold zoneEvent State.afterEvent
  dsimp only
  by_cases same : after.level = (s.zone z).level
  · rw [if_neg (not_not.2 same), if_pos same]
    exact reportOnChange_eq low high (.refl z _)
  · rw [if_pos same, if_neg same]
    exact reportOnChange_eq low high (.levelIssue z _ _)

theorem afterEvent_acts (low : 1 ≤ z) (high : z ≤ 255) (after : ZoneState) (s : State) :
    s.Acts z (s.afterEvent z after) ∧ after.SameButFlags ((s.afterEvent z after).zone z) := by
  unfold State.afterEvent
  dsimp only
  have issued : ∃ u, (s.setZone z after).Issues z u
      ∧ (if after.level = (s.zone z).level then s.setZone z after else levelIssue z (s.record z).normalFade (s.setZone z after)) = u := by
    split
    · exact ⟨_, .refl z _, rfl⟩
    · exact ⟨_, .levelIssue z _ _, rfl⟩
  obtain ⟨u, issues, eq⟩ := issued
  have acts := (State.Acts.setZone s z after).trans (.of_issues issues)
  have same := issues.sameButFlags
  rw [State.zone_setZone_same _ _ low high] at same
  rw [eq]
  split
  · exact ⟨acts, same⟩
  · exact ⟨acts.trans (.queueReport z u), same.trans (queueReport_sameButFlags low high u)⟩

theorem State.isZone_of_ne_idle (busy : s.zone z ≠ .idle) : 1 ≤ z ∧ z ≤ 255 := by
  by_contra outside
  have out : z = 0 ∨ 255 < z := by omega
  obtain rfl | high := out
  · exact busy rfl
  · exact busy (nth_of_lt _ _ high)

/-! ## Fresh presence (R81, R102) -/

theorem State.Law.givesPresence_iff (h : s.Law) {a : Nat} :
    s.givesPresence a = true ↔
      ∃ e ∈ s.cache, e.address = a ∧ e.last = .presence ∧ (s.deviceTime - e.second).toNat ≤ s.settings.staleLimit := by
  obtain ⟨keyed, -⟩ := h.table
  have fresh (e : CacheEntry) : s.fresh e = true ↔ (s.deviceTime - e.second).toNat ≤ s.settings.staleLimit := by
    rw [State.fresh, decide_eq_true_eq]; rfl
  unfold State.givesPresence
  split
  · next e found =>
    obtain ⟨cached, address⟩ := (find_eq_some_of_ascends keyed).1 found
    rw [Bool.and_eq_true, decide_eq_true_eq, fresh]
    constructor
    · rintro ⟨last, young⟩
      exact ⟨e, cached, address, last, young⟩
    · rintro ⟨e', cached', address', last, young⟩
      have found' : cacheEntry s.cache a = some e' := (find_eq_some_of_ascends keyed).2 ⟨cached', address'⟩
      rw [found] at found'
      cases found'
      exact ⟨last, young⟩
  · next none =>
    refine ⟨nofun, fun ⟨e, cached, address, _⟩ => ?_⟩
    have found : cacheEntry s.cache a = some e := (find_eq_some_of_ascends keyed).2 ⟨cached, address⟩
    rw [none] at found
    cases found

/-- Fresh presence of a zone, as the manual names it. -/
theorem State.Law.freshPresence_iff (h : s.Law) {windows : List Window} :
    s.freshPresence windows z = true ↔
      ∃ w ∈ windows, w.translate = true ∧ w.role = .occupancySensor ∧ w.zone = z
        ∧ ∃ e ∈ s.cache, w.low ≤ e.address ∧ e.address ≤ w.high ∧ e.last = .presence
          ∧ (s.deviceTime - e.second).toNat ≤ s.settings.staleLimit := by
  simp only [State.freshPresence, List.any_eq_true, Prod.exists, mem_membersOfRole, h.givesPresence_iff]
  constructor
  · rintro ⟨w, a, ⟨there, translate, zone, role, low, high⟩, e, cached, rfl, last, young⟩
    exact ⟨w, there, translate, role, zone, e, cached, low, high, last, young⟩
  · rintro ⟨w, there, translate, role, zone, e, cached, low, high, last, young⟩
    exact ⟨w, e.address, ⟨there, translate, zone, role, low, high⟩, e, cached, rfl, last, young⟩

/-! ## The expiries (R81 to R84) -/

theorem ZoneState.LevelLaw.bound_graceLevel {v : ZoneState} {r : ZoneRecord} (h : v.LevelLaw r) (record : r.InRange) :
    r.bound (r.graceLevel v.level) = r.graceLevel v.level := by
  have most := h.level_le
  obtain ⟨-, lit, -⟩ := h
  by_cases dark : v.level = 0 ∨ r.gracePercent = 0
  · rw [r.graceLevel_dark dark]; rfl
  · obtain ⟨on, percent⟩ := not_or.1 dark
    have below := roundedPercent_le_self v.level record.gracePercent_le
    have above := record.minOn_le
    rw [r.graceLevel_lit on percent]
    exact r.bound_of_mem (by omega) (by omega)

theorem ZoneState.onHoldExpiry_fresh (v : ZoneState) (r : ZoneRecord) :
    v.onHoldExpiry r true = { v with hold := r.holdTime * 60, expiring := false } := rfl

theorem ZoneState.LevelLaw.onHoldExpiry_stale {v : ZoneState} {r : ZoneRecord} (h : v.LevelLaw r) (record : r.InRange) :
    v.onHoldExpiry r false =
      if r.graceTime = 0 then { v with occupancy := .vacant, level := 0, offset := 0, expiring := false, hold := 0 }
      else
        { v with
          occupancy := .grace, hold := 0, preGrace := v.level, level := r.graceLevel v.level, grace := r.graceTime
          expiring := false } := by
  simp only [ZoneState.onHoldExpiry, ZoneState.vacate, ZoneState.enterGrace, h.bound_graceLevel record]
  rfl

theorem execHoldExpiry_due (running : s.resetLow = false) (thawed : (s.zone z).frozen = false) (due : (s.zone z).expiring = true)
    (occupied : (s.zone z).occupancy = .occupied) :
    exec (.holdExpiry z) s =
      .next (zoneEvent z ((s.zone z).onHoldExpiry (s.record z) (s.freshPresence s.active.windows z)) s) := by
  have dues : s.holdDue z = true := by simp [State.holdDue, State.running, running, thawed, due, occupied]
  exact congrArg Host.Outcome.next (if_pos dues)

theorem execGraceExpiry_due (running : s.resetLow = false) (thawed : (s.zone z).frozen = false) (due : (s.zone z).expiring = true)
    (grace : (s.zone z).occupancy = .grace) : exec (.graceExpiry z) s = .next (zoneEvent z (s.zone z).onGraceExpiry s) := by
  have dues : s.graceDue z = true := by simp [State.graceDue, State.running, running, thawed, due, grace]
  exact congrArg Host.Outcome.next (if_pos dues)

theorem queueReport_eq (z : Nat) (s : State) (reports : List ZoneReport) (joined : joinReports s.uplink.reports (formReport s z) = reports) :
    queueReport z s =
      { s.setZone z { s.zone z with reportPending := true } with uplink := { s.uplink with reports := reports } } := by
  rw [← joined]; rfl

theorem joinReports_of_absent {q : List ZoneReport} {r : ZoneReport} (absent : ∀ x ∈ q, x.zone ≠ r.zone) : joinReports q r = q ++ [r] := by
  rw [joinReports, if_neg]
  simpa using absent

theorem joinReports_of_waiting {q : List ZoneReport} {r : ZoneReport} (waits : ∃ x ∈ q, x.zone = r.zone) :
    joinReports q r = q.map fun x => if x.zone = r.zone then r else x := by
  rw [joinReports, if_pos]
  simpa using waits

/-! ## The shadow (R98, R141, R142) -/

/-- What shadow commands may change: the trace count and the trace queue. -/
structure State.Traces (s t : State) : Prop where
  frame : t = { s with engine := t.engine, uplink := t.uplink }
  engine : t.engine = { s.engine with traceCount := t.engine.traceCount }
  uplink : t.uplink = { s.uplink with traces := t.uplink.traces, traceDiscards := t.uplink.traceDiscards }

theorem State.Traces.refl (s : State) : s.Traces s := ⟨rfl, rfl, rfl⟩

theorem State.Traces.trans (h : s.Traces t) (k : t.Traces u) : s.Traces u where
  frame := by rw [k.frame, h.frame]
  engine := by rw [k.engine, h.engine]
  uplink := by rw [k.uplink, h.uplink]

theorem shadowCommand_counts (source : Nat) (c : CommandEntry) (s : State) :
    let due := s.settings.tracePrescale ≤ s.engine.traceCount + 1
    let room := s.link = .up ∧ s.uplink.traces.length < 64
    let trace : Trace :=
      { stagedZone := c.zone, destination := c.destination, kind := c.kind, value := c.value, sourceZone := source }
    let counted := fun (count : Nat) (u : Uplink) => { s with engine := { s.engine with traceCount := count }, uplink := u }
    (¬due → shadowCommand source c s = counted (s.engine.traceCount + 1) s.uplink)
      ∧ (due → room → shadowCommand source c s = counted 0 { s.uplink with traces := s.uplink.traces ++ [trace] })
      ∧ (due → ¬room →
        shadowCommand source c s = counted 0 { s.uplink with traceDiscards := advanceCount s.uplink.traceDiscards }) := by
  refine ⟨fun counts => ?_, fun due room => ?_, fun due full => ?_⟩
  · rw [shadowCommand, if_neg counts]
  · rw [shadowCommand, if_pos due, offerTrace, if_pos room]
  · rw [shadowCommand, if_pos due, offerTrace, if_neg full]

theorem State.Traces.shadowCommand (source : Nat) (c : CommandEntry) (s : State) : s.Traces (shadowCommand source c s) := by
  obtain ⟨counts, traced, lost⟩ := shadowCommand_counts source c s
  by_cases due : s.settings.tracePrescale ≤ s.engine.traceCount + 1
  · by_cases room : s.link = .up ∧ s.uplink.traces.length < 64
    · rw [traced due room]; exact ⟨rfl, rfl, rfl⟩
    · rw [lost due room]; exact ⟨rfl, rfl, rfl⟩
  · rw [counts due]; exact ⟨rfl, rfl, rfl⟩

theorem State.Traces.shadowCommands (source : Nat) (cs : List (Nat × CommandEntry)) (s : State) :
    s.Traces (cs.foldl (fun t c => Machine.shadowCommand source c.2 t) s) := by
  induction cs generalizing s with
  | nil => exact .refl s
  | cons c cs ih => exact (State.Traces.shadowCommand source c.2 s).trans (ih _)

/-- What an event of the shadow machine leaves. -/
theorem shadowEvent_eq (low : 1 ≤ z) (high : z ≤ 255) (source : Nat) (after : ZoneState) (s : State) :
    shadowEvent source z after s =
      if after.level = (s.shadowZone z).level then s.setShadow z after
      else
        (levelCommands s.staged.windows z after.level (s.stagedRecord z).normalFade).foldl
          (fun u c => shadowCommand source c.2 u) (s.setShadow z after) := by
  unfold shadowEvent shadowIssue
  dsimp only
  by_cases same : after.level = (s.shadowZone z).level
  · rw [if_neg (not_not.2 same), if_pos same]
  · rw [if_pos same, if_neg same, State.shadowZone_setShadow_same _ _ low high]
    rfl

theorem shadowEvent_traces (source z : Nat) (after : ZoneState) (s : State) : (s.setShadow z after).Traces (shadowEvent source z after s) := by
  unfold shadowEvent
  dsimp only
  split
  · exact .shadowCommands source _ _
  · exact .refl _

theorem execShadowHoldExpiry_due (running : s.resetLow = false) (rehearses : s.staging = .rehearsing) (due : (s.shadowZone z).expiring = true)
    (occupied : (s.shadowZone z).occupancy = .occupied) :
    exec (.shadowHoldExpiry z) s =
      .next
        (shadowEvent 0 z ((s.shadowZone z).onHoldExpiry (s.stagedRecord z) (s.freshPresence s.staged.windows z)) s) := by
  have dues : s.shadowHoldDue z = true := by simp [State.shadowHoldDue, State.running, running, rehearses, due, occupied]
  exact congrArg Host.Outcome.next (if_pos dues)

theorem execShadowGraceExpiry_due (running : s.resetLow = false) (rehearses : s.staging = .rehearsing)
    (due : (s.shadowZone z).expiring = true) (grace : (s.shadowZone z).occupancy = .grace) :
    exec (.shadowGraceExpiry z) s = .next (shadowEvent 0 z (s.shadowZone z).onGraceExpiry s) := by
  have dues : s.shadowGraceDue z = true := by simp [State.shadowGraceDue, State.running, running, rehearses, due, grace]
  exact congrArg Host.Outcome.next (if_pos dues)

/-! ## A second (R7, R80, R84) -/

/-- A running timer counts by one, or its expiry falls due. -/
def ZoneState.countedDown (v : ZoneState) : ZoneState :=
  match v.occupancy with
  | .vacant => v
  | .occupied => if 2 ≤ v.hold then { v with hold := v.hold - 1 } else { v with expiring := true }
  | .grace => if 2 ≤ v.grace then { v with grace := v.grace - 1 } else { v with expiring := true }

theorem ZoneState.tick_eq (v : ZoneState) : v.tick = if v.frozen then v else v.countedDown := by
  have flip {n : Nat} (a b : ZoneState) : (if n ≤ 1 then a else b) = if 2 ≤ n then b else a := by
    by_cases few : n ≤ 1
    · rw [if_pos few, if_neg (by omega)]
    · rw [if_neg few, if_pos (by omega)]
  cases occupancy : v.occupancy <;> simp only [tick, countedDown, flip, occupancy]

theorem nextSecond_toNat (early : s.deviceTime.toNat < 4294967295) : s.nextSecond.toNat = s.deviceTime.toNat + 1 := by
  have last : s.deviceTime ≠ 0xFFFFFFFF#32 := fun eq => by rw [eq] at early; exact absurd early (by decide)
  rw [State.nextSecond, if_neg last, BitVec.toNat_add]
  have : (1 : BitVec 32).toNat = 1 := rfl
  omega

end

/-- Settles O34: an expiry is an event at its zone, whose record the expiry leaves as Table 5-2 gives; a report joins by what waits. -/
theorem zoneTimersExpire : Obligations.ZoneTimersExpire := by
  refine ⟨?_, ?_⟩
  · intro s z h running thawed due r vacated fresh becomes
    obtain ⟨low, high⟩ := State.isZone_of_ne_idle (s := s) (z := z) fun idle => by rw [idle] at due; cases due
    have made (command : Instr) (after : ZoneState) (runs : exec command s = .next (zoneEvent z after s)) : becomes command after := by
      obtain ⟨acts, same⟩ := afterEvent_acts low high after s
      rw [zoneEvent_eq_afterEvent low high] at runs
      exact ⟨_, runs, rfl, by rw [ZoneState.SameButFlags] at same ⊢; rw [same], acts.other, acts.segment, acts.frame⟩
    refine ⟨fun occupied isFresh => ?_, fun occupied isStale => ?_, fun grace => ?_⟩
    · rw [execHoldExpiry_due running thawed due occupied, h.freshPresence_iff.2 isFresh, ZoneState.onHoldExpiry_fresh,
        zoneEvent_eq_afterEvent low high, State.afterEvent]
      simp [r]
    · have stale : s.freshPresence s.active.windows z = false := by
        rw [← Bool.not_eq_true, h.freshPresence_iff]; exact isStale
      refine made _ _ ?_
      rw [execHoldExpiry_due running thawed due occupied, stale, (h.zones z).level.onHoldExpiry_stale (h.record_inRange z)]
    · exact made _ _ (execGraceExpiry_due running thawed due grace)
  · intro s z low high v r formed queued
    have alarm : v.spreadAlarm r = decide (r.spreadAlarm ≠ 0 ∧ r.spreadAlarm < v.spread) := by
      rw [Bool.eq_iff_iff]
      simp [ZoneState.spreadAlarm]
    have forms : formReport s z = formed := by
      simp only [formed, ← alarm]
      rfl
    refine ⟨fun waits => queueReport_eq z s _ ?_, fun absent => queueReport_eq z s _ ?_⟩
    · rw [forms, joinReports_of_waiting waits]
    · rw [forms, joinReports_of_absent absent]

/-- Settles O35: an event of the shadow machine writes one shadow record, and its commands count traces alone. -/
theorem shadowTimersTouchOnlyTheShadow : Obligations.ShadowTimersTouchOnlyTheShadow := by
  refine ⟨?_, fun s source c => shadowCommand_counts source c s⟩
  intro s z running rehearses low high due vacated becomes
  have made (command : Instr) (after : ZoneState) (runs : exec command s = .next (shadowEvent 0 z after s)) : becomes command after := by
    have traces := shadowEvent_traces 0 z after s
    have shadow : (shadowEvent 0 z after s).shadow = (s.setShadow z after).shadow := (congrArg State.shadow traces.frame :)
    have zone (y : Nat) : (shadowEvent 0 z after s).shadowZone y = (s.setShadow z after).shadowZone y :=
      congrArg (fun table => nth table ZoneState.idle y) shadow
    refine ⟨_, runs, shadowEvent_eq low high 0 after s, ?_, fun y ne => ?_, traces.engine, traces.uplink, ?_⟩
    · rw [zone, State.shadowZone_setShadow_same _ _ low high]
    · rw [zone, State.shadowZone_setShadow_other _ _ ne]
    · rw [traces.frame]; rfl
  refine ⟨?_, fun grace => made _ _ (execShadowGraceExpiry_due running rehearses due grace)⟩
  intro occupied r after fresh
  refine ⟨made _ _ (execShadowHoldExpiry_due running rehearses due occupied), fun h isFresh => ?_, fun h isStale => ?_⟩
  · simp only [after, h.freshPresence_iff.2 isFresh]
    exact ZoneState.onHoldExpiry_fresh _ _
  · have stale : s.freshPresence s.staged.windows z = false := by
      rw [← Bool.not_eq_true, h.freshPresence_iff]; exact isStale
    simp only [after, stale]
    exact (h.shadow_sound z).level.onHoldExpiry_stale (h.stagedRecord_inRange z)

/-- Settles O36: every record ticks, a frozen one excepted. -/
theorem secondCountsTimersDown : Obligations.SecondCountsTimersDown := by
  intro s running counted
  have due : s.running = true := by simp [State.running, running]
  refine ⟨advance s, congrArg Host.Outcome.next (if_pos due), nextSecond_toNat, fun z => ?_, fun idle => if_neg idle,
    fun rehearses z thawed => ?_, rfl, rfl⟩
  · rw [zone_tick, ZoneState.tick_eq]
    rfl
  · have shadow : (advance s).shadow = mapNumbered s.shadow fun _ v => v.tick := if_pos rehearses
    have ticks : (advance s).shadowZone z = (s.shadowZone z).tick := by
      rw [State.shadowZone, shadow]
      exact nth_mapNumbered_of_fixed s.shadow (fun _ v => v.tick) ZoneState.idle z fun _ => rfl
    rw [ticks, ZoneState.tick_eq, thawed]
    rfl

end Sys2Proof.Machine
end

/-! # Translation (chapters 2 and 3), and what it reaches -/

section
namespace Sys2Proof.Machine

section
variable {s t u : State} {w : Window} {x : Translation}

/-! ## What the active part may touch -/

/-- What the active part of a translation may touch. -/
structure State.Touches (s t : State) : Prop where
  frame : t =
    { s with
      segments := t.segments, zones := t.zones, cache := t.cache, notices := t.notices, uplink := t.uplink
      freeCount := t.freeCount }
  segment : ∀ n, t.segment n = { s.segment n with commands := (t.segment n).commands }
  uplink : t.uplink =
    { s.uplink with
      notices := t.uplink.notices, reports := t.uplink.reports, forwards := t.uplink.forwards
      forwardDiscards := t.uplink.forwardDiscards }

theorem State.Touches.refl (s : State) : s.Touches s := ⟨rfl, fun _ => rfl, rfl⟩

theorem State.Touches.trans (h : s.Touches t) (k : t.Touches u) : s.Touches u where
  frame := by rw [k.frame, h.frame]
  segment n := by rw [k.segment, h.segment]
  uplink := by rw [k.uplink, h.uplink]

theorem State.Touches.of_ite {p : Prop} [Decidable p] {a b : State} (yes : s.Touches a) (no : s.Touches b) :
    s.Touches (if p then a else b) := by
  split
  · exact yes
  · exact no

theorem State.Touches.report (c : Condition) (scope : Option Nat) (s : State) : s.Touches (report c scope s) :=
  ⟨rfl, fun _ => rfl, by rw [report_uplink]⟩

theorem State.Touches.of_acts {z : Nat} (h : s.Acts z t) : s.Touches t := ⟨by rw [h.frame], h.segment, by rw [h.uplink]⟩

theorem zoneEvent_acts (z : Nat) (after : ZoneState) (s : State) : s.Acts z (zoneEvent z after s) := by
  obtain ⟨t, issued, reported⟩ := zoneEvent_cases z after s
  have acts : s.Acts z t := by
    obtain rfl | rfl := issued
    · exact .setZone s z after
    · exact (State.Acts.setZone s z after).trans (.of_issues (.levelIssue z _ _))
  obtain eq | eq := reported
  · exact eq ▸ acts
  · exact eq ▸ acts.trans (.queueReport z t)

theorem State.Touches.offerForward (f : FieldUp) (s : State) : s.Touches (offerForward f s) := by
  refine ⟨rfl, fun _ => rfl, ?_⟩
  simp only [Machine.offerForward]
  split <;> rfl

theorem State.Touches.recordReport (a : Nat) (role : Role) (last : Report) (second : Second) (s : State) :
    s.Touches (recordReport a role last second s) := by
  have written : s.Touches { s with cache := writeCache s.cache a role last second } := ⟨rfl, fun _ => rfl, rfl⟩
  exact .of_ite (written.trans (.report _ _ _)) written

theorem State.Touches.actOnZone (z : Nat) (c : FrameClass) (s : State) : s.Touches (actOnZone z c s) := .of_acts (zoneEvent_acts z _ s)

theorem handOn_presence (w : Window) (r : IngressRecord) (s : State) :
    handOn w .presence r s =
      recordReport r.frame.source.toNat w.role .presence r.second (actOnZone w.zone .presence s) := rfl

theorem State.Touches.handOn (w : Window) (c : FrameClass) (r : IngressRecord) (s : State) : s.Touches (handOn w c r s) := by
  cases c with
  | presence =>
    rw [handOn_presence]
    exact (State.Touches.actOnZone w.zone _ s).trans (.recordReport _ _ _ _ _)
  | absence => exact .recordReport r.frame.source.toNat w.role .absence r.second s
  | temperature =>
    exact .recordReport r.frame.source.toNat w.role (.reading (readingOf s.active.classifier r.frame)) r.second s
  | pass => exact .refl s
  | ignore => exact .refl s
  | keyOn => exact .actOnZone w.zone _ s
  | keyOff => exact .actOnZone w.zone _ s
  | keyRaise => exact .actOnZone w.zone _ s
  | keyLower => exact .actOnZone w.zone _ s
  | setWarmer => exact .actOnZone w.zone _ s
  | setCooler => exact .actOnZone w.zone _ s

theorem State.Touches.checkRole (w : Window) (c : FrameClass) (r : IngressRecord) (s : State) : s.Touches (checkRole w c r s) :=
  .of_ite (.refl s) (.of_ite (.handOn w c r s) (.report _ _ s))

theorem State.Touches.placeChecked (w : Window) (r : IngressRecord) (s : State) : s.Touches (placeChecked w r s) :=
  .of_ite (.report _ _ s) (.refl s)

theorem State.Touches.classChecked (w : Window) (r : IngressRecord) (s : State) : s.Touches (classChecked w r s) :=
  .of_ite ((State.Touches.placeChecked w r s).trans (.report _ _ _)) (.placeChecked w r s)

theorem State.Touches.translateListed (w : Window) (r : IngressRecord) (s : State) : s.Touches (translateListed w r s) := by
  have acted := (State.Touches.classChecked w r s).trans (.checkRole w (classOf s.active.classifier r.frame) r _)
  rw [translateListed_eq]
  exact .of_ite (.placeChecked w r s) (.of_ite (acted.trans (.offerForward _ _)) acted)

theorem State.Touches.reportUnordered (c d : Condition) (scope : Option Nat) (s : State) : s.Touches (reportUnordered c d scope s) := by
  have drawn : s.Touches { s with freeCount := s.freeCount + 1 } := ⟨rfl, fun _ => rfl, rfl⟩
  exact .of_ite (drawn.trans ((State.Touches.report _ _ _).trans (.report _ _ _)))
    (drawn.trans ((State.Touches.report _ _ _).trans (.report _ _ _)))

/-- An unlisted record before it goes up (R48). -/
def unlistedReported (r : IngressRecord) (s : State) : State :=
  if (winningEntry s.active.classifier r.frame).isNone then
    reportUnordered .classifierMiss .unlistedSource (some r.frame.source.toNat) s
  else report .unlistedSource (some r.frame.source.toNat) s

theorem translateUnlisted_eq (closed : Bool) (r : IngressRecord) (s : State) :
    translateUnlisted closed r s =
      if closed then unlistedReported r s
      else
        offerForward { segment := r.segment, zone := 0, cls := classOf s.active.classifier r.frame, frame := r.frame }
          (unlistedReported r s) := rfl

theorem State.Touches.unlistedReported (r : IngressRecord) (s : State) : s.Touches (unlistedReported r s) :=
  .of_ite (.reportUnordered _ _ _ s) (.report _ _ s)

theorem State.Touches.translateUnlisted (closed : Bool) (r : IngressRecord) (s : State) : s.Touches (translateUnlisted closed r s) := by
  have reported := State.Touches.unlistedReported r s
  exact .of_ite reported (reported.trans (.offerForward _ _))

theorem State.Touches.activeRun (x : Translation) (s : State) : (markHeard x.record.frame.source.toNat s).Touches (activeRun x s) := by
  unfold Machine.activeRun
  split
  · exact .translateListed _ _ _
  · exact .translateUnlisted _ _ _

/-! ## The staged run (R33, R140) -/

/-- What a staged run changes: one shadow record, and traces. -/
theorem stagedRun_traces (r : IngressRecord) (s : State) : ∃ table, ({ s with shadow := table } : State).Traces (stagedRun r s) := by
  unfold stagedRun
  dsimp only
  split
  · exact ⟨s.shadow, .refl s⟩
  · next v _ =>
    split
    · exact ⟨_, shadowEvent_traces _ v.zone _ s⟩
    · exact ⟨s.shadow, .refl s⟩

/-- The staged run of a record that state `s` takes up, in a state `u` that the active part has left. -/
def State.shadowRun (s : State) (f : FieldFrame) (u : State) : State :=
  let a := f.source.toNat
  match lookup s.staged.windows a with
  | none => u
  | some v =>
    let k := classOf s.staged.classifier f
    let after := (s.shadowZone v.zone).onClass (s.stagedRecord v.zone) k
    if v.translate = true ∧ v.role.accepts k = true then
      let changed := u.setShadow v.zone after
      if after.level = (s.shadowZone v.zone).level then changed
      else
        (levelCommands s.staged.windows v.zone after.level (s.stagedRecord v.zone).normalFade).foldl
          (fun y m => shadowCommand (((lookup s.active.windows a).map Window.zone).getD 0) m.2 y) changed
    else u

theorem stagedRun_eq_shadowRun (valid : s.staged.Valid) (active : u.active = s.active) (staged : u.staged = s.staged)
    (shadow : u.shadow = s.shadow) (r : IngressRecord) : stagedRun r u = s.shadowRun r.frame u := by
  have zone (z : Nat) : u.shadowZone z = s.shadowZone z := congrArg (fun table => nth table ZoneState.idle z) shadow
  have record (z : Nat) : u.stagedRecord z = s.stagedRecord z := congrArg (fun b => Bank.zone b z) staged
  simp only [stagedRun, State.shadowRun, staged, active, zone, record]
  cases listed : lookup s.staged.windows r.frame.source.toNat with
  | none => rfl
  | some v =>
    by_cases acts : v.translate = true ∧ v.role.accepts (classOf s.staged.classifier r.frame) = true
    · obtain ⟨low, high⟩ := Bank.isZone_of_present (valid.zone_present (mem_of_lookup listed) acts.1)
      simp only [if_pos acts, shadowEvent_eq low high, zone, record, staged]
    · simp only [if_neg acts]

theorem execTranslationCompletion_due (running : s.resetLow = false) (taken : s.engine.current = some x) :
    exec .translationCompletion s = .next (translate x s) := by
  have due : s.running = true := by simp [State.running, running]
  refine congrArg Host.Outcome.next ?_
  rw [taken]
  exact if_pos due

/-! ## The active part under the laws -/

theorem placeChecked_eq (w : Window) (r : IngressRecord) (s : State) :
    placeChecked w r s = if w.segment = r.segment then s else report .misplacedDevice (some r.frame.source.toNat) s := by
  simp only [placeChecked, ne_eq, ite_not]

theorem classChecked_eq (w : Window) (r : IngressRecord) (s : State) :
    classChecked w r s =
      if winningEntry s.active.classifier r.frame = none then
        report .classifierMiss (some r.frame.source.toNat) (placeChecked w r s)
      else placeChecked w r s := by
  simp only [classChecked, Option.isNone_iff_eq_none]

/-- A sensor's report written to the point cache (R100, R101). -/
theorem recordReport_eq (a : Nat) (role : Role) (last : Report) (second : Second) (s : State) :
    recordReport a role last second s =
      let v : State := { s with cache := writeCache s.cache a role last second }
      match last with
      | .presence => v
      | .absence => v
      | .reading t => if 0 ≤ t ∧ t ≤ 5000 then v else report .implausibleReading (some a) v := by
  cases last with
  | presence => rfl
  | absence => rfl
  | reading t =>
    by_cases sound : 0 ≤ t ∧ t ≤ 5000
    · simp [recordReport, Report.implausible, plausible, sound]
    · simp only [recordReport, Report.implausible, plausible, if_neg sound]
      exact if_pos (by simpa [or_iff_not_imp_left] using sound)

theorem readingOf_eq (table : Vector ClassifierEntry 32) (f : FieldFrame) :
    readingOf table f =
      max (-4000) (min 8500 (f.value.toInt * if ((winningEntry table f).map ClassifierEntry.timesTen).getD false then 10 else 1)) := by
  rw [readingOf, reading, saturate, min_comm]

/-- What an acting class of a Translate window makes of the state, when its zone has a number (Table 2-4, Table 2-6). -/
theorem checkRole_eq {c : FrameClass} {r : IngressRecord} (zone : w.translate = true → 1 ≤ w.zone ∧ w.zone ≤ 255) :
    checkRole w c r s =
      let a := r.frame.source.toNat
      let reached := s.afterEvent w.zone ((s.zone w.zone).onClass (s.record w.zone) c)
      if w.translate = false ∨ c = .pass ∨ c = .ignore then s
      else if w.role.accepts c = false then report .roleMismatch (some a) s
      else if c = .presence then recordReport a w.role .presence r.second reached
      else if c = .absence then recordReport a w.role .absence r.second s
      else if c = .temperature then recordReport a w.role (.reading (readingOf s.active.classifier r.frame)) r.second s
      else reached := by
  have acting : c.acting = false ↔ c = .pass ∨ c = .ignore := by cases c <;> simp [FrameClass.acting]
  simp only [checkRole, acting]
  by_cases idle : w.translate = false ∨ c = .pass ∨ c = .ignore
  · rw [if_pos idle, if_pos idle]
  · obtain ⟨low, high⟩ := zone (by simpa using (not_or.1 idle).1)
    rw [if_neg idle, if_neg idle]
    cases accepts : w.role.accepts c with
    | false => rfl
    | true =>
      cases c <;> simp_all [handOn, actOnZone, zoneEvent_eq_afterEvent low high]

/-! ## The point cache (R99, R100) -/

theorem cacheEntry_writeCache {cache : List CacheEntry} (keyed : (cache.map CacheEntry.address).Pairwise (· < ·)) (a : Nat)
    (role : Role) (last : Report) (second : Second) (b : Nat) :
    cacheEntry (writeCache cache a role last second) b =
      if b = a then
        some
          { address := a, role := ((cacheEntry cache a).map CacheEntry.role).getD role, last, second
            implausible := last.implausible }
      else cacheEntry cache b := cacheEntry_insert _ keyed b

/-! ## The whole translation -/

/-- A translation under the laws: the active part, then the staged run where rehearsal has one, then the engine is free. -/
theorem translate_eq_shadowRun (h : s.Law) (x : Translation) :
    translate x s =
      let y := if x.rehearsed = true ∧ s.staging = .rehearsing then s.shadowRun x.record.frame (activeRun x s) else activeRun x s
      { y with engine := { y.engine with current := none } } := by
  rw [translate_eq]
  by_cases rehearses : x.rehearsed = true ∧ s.staging = .rehearsing
  · have valid := Bank.Valid.of_staging h (by simp [rehearses.2]) (by simp [rehearses.2])
    have frame := (State.Touches.activeRun x s).frame
    rw [if_pos rehearses, if_pos rehearses,
      stagedRun_eq_shadowRun valid ((congrArg State.active frame :)) ((congrArg State.staged frame :))
        ((congrArg State.shadow frame :))]
  · rw [if_neg rehearses, if_neg rehearses]

theorem activeRun_listed (listed : lookup s.active.windows x.record.frame.source.toNat = some w) :
    activeRun x s = translateListed w x.record (markHeard x.record.frame.source.toNat s) := by
  rw [activeRun, listed]

theorem activeRun_unlisted (unlisted : lookup s.active.windows x.record.frame.source.toNat = none) :
    activeRun x s = translateUnlisted x.closedFloor x.record (markHeard x.record.frame.source.toNat s) := by
  rw [activeRun, unlisted]

theorem classChecked_keeps (w : Window) (r : IngressRecord) (s : State) :
    (classChecked w r s).active = s.active ∧ (classChecked w r s).zones = s.zones := by
  simp only [classChecked, placeChecked]
  split <;> split <;> exact ⟨rfl, rfl⟩

theorem checkRole_classChecked {c : FrameClass} {r : IngressRecord} (zone : w.translate = true → 1 ≤ w.zone ∧ w.zone ≤ 255) :
    checkRole w c r (classChecked w r s) =
      let a := r.frame.source.toNat
      let classified := classChecked w r s
      let reached := classified.afterEvent w.zone ((s.zone w.zone).onClass (s.record w.zone) c)
      if w.translate = false ∨ c = .pass ∨ c = .ignore then classified
      else if w.role.accepts c = false then report .roleMismatch (some a) classified
      else if c = .presence then recordReport a w.role .presence r.second reached
      else if c = .absence then recordReport a w.role .absence r.second classified
      else if c = .temperature then recordReport a w.role (.reading (readingOf s.active.classifier r.frame)) r.second classified
      else reached := by
  obtain ⟨active, zones⟩ := classChecked_keeps w r s
  have same : (classChecked w r s).zone w.zone = s.zone w.zone := congrArg (fun table => nth table ZoneState.idle w.zone) zones
  have record : (classChecked w r s).record w.zone = s.record w.zone := congrArg (fun b => Bank.zone b w.zone) active
  rw [checkRole_eq zone, same, record, active]

theorem offerForward_eq (u : FieldUp) (s : State) :
    let room := s.link = .up ∧ s.uplink.forwards.length < 128
    (room → offerForward u s = { s with uplink := { s.uplink with forwards := s.uplink.forwards ++ [u] } })
      ∧ (¬room →
        offerForward u s =
          { s with uplink := { s.uplink with forwardDiscards := advanceCount s.uplink.forwardDiscards } }) := by
  refine ⟨fun room => ?_, fun full => ?_⟩
  · rw [offerForward, if_pos room]
  · rw [offerForward, if_neg full]

theorem reportUnordered_cases (c d : Condition) (scope : Option Nat) (s : State) :
    let drawn : State := { s with freeCount := s.freeCount + 1 }
    reportUnordered c d scope s = report d scope (report c scope drawn)
      ∨ reportUnordered c d scope s = report c scope (report d scope drawn) := by
  simp only [reportUnordered]
  split
  · exact .inl rfl
  · exact .inr rfl

theorem Role.accepts_iff (role : Role) (c : FrameClass) :
    role.accepts c = true ↔
      (role = .occupancySensor ∧ (c = .presence ∨ c = .absence)) ∨ (role = .temperatureSensor ∧ c = .temperature)
        ∨ (role = .keypad
          ∧ (c = .keyOn ∨ c = .keyOff ∨ c = .keyRaise ∨ c = .keyLower ∨ c = .setWarmer ∨ c = .setCooler)) := by
  cases role <;> cases c <;> decide

/-- Settles O30: the active part by its stages, then the staged run. -/
theorem translationCompletes : Obligations.TranslationCompletes := by
  refine ⟨?_, ?_, Role.accepts_iff, ?_, fun s u => offerForward_eq u s⟩
  · intro s x running taken
    refine ⟨translate x s, execTranslationCompletion_due running taken, ?_⟩
    have touched := State.Touches.activeRun x s
    rw [translate_eq]
    dsimp only
    have uplink := touched.uplink
    have frame := touched.frame
    by_cases rehearses : x.rehearsed = true ∧ s.staging = .rehearsing
    · rw [if_pos rehearses]
      obtain ⟨table, ran⟩ := stagedRun_traces x.record (activeRun x s)
      generalize stagedRun x.record (activeRun x s) = v at ran ⊢
      have same := ran.frame
      have counted := ran.engine
      have traced := ran.uplink
      refine ⟨?_, ?_, fun n => ?_, ?_, fun still => absurd rehearses still, ?_⟩
      · rw [counted, frame]; rfl
      · rw [same, frame]; rfl
      · have line : v.segment n = (activeRun x s).segment n := by rw [same]; rfl
        exact line ▸ touched.segment n
      · rw [traced]
        show (activeRun x s).uplink.replies = _
        rw [uplink]; rfl
      · rw [same, frame]; rfl
    · rw [if_neg rehearses]
      refine ⟨?_, ?_, touched.segment, ?_, fun _ => ⟨?_, ?_, ?_⟩, ?_⟩
      · rw [frame]; rfl
      · rw [frame]; rfl
      · show (activeRun x s).uplink.replies = _
        rw [uplink]; rfl
      · rw [frame]; rfl
      · rw [frame]; rfl
      · show (activeRun x s).uplink.traces = _
        rw [uplink]; rfl
      · rw [frame]; rfl
  · intro s x h running taken f a c missed heard run completes
    have done (u : State) (ran : activeRun x s = u) : completes u := by
      have translated := translate_eq_shadowRun h x
      rw [ran] at translated
      exact (execTranslationCompletion_due running taken).trans (congrArg Host.Outcome.next translated)
    refine ⟨fun w listed => ?_, fun unlisted => ?_⟩
    · intro placed classified scale cached reached acted
      have zone (translates : w.translate = true) : 1 ≤ w.zone ∧ w.zone ≤ 255 :=
        Bank.isZone_of_present (h.plan.1.zone_present (mem_of_lookup listed) translates)
      have listed := activeRun_listed listed
      rw [translateListed_eq] at listed
      have place : placeChecked w x.record heard = placed := placeChecked_eq w x.record heard
      have classify : classChecked w x.record heard = classified := by rw [classChecked_eq, place]
      refine ⟨fun untranslated unforwarded => done _ ?_, fun acts => done _ ?_⟩
      · rw [listed, if_pos ⟨untranslated, unforwarded⟩]
        exact place
      · have act : checkRole w c x.record (classChecked w x.record heard) = acted := by
          rw [checkRole_classChecked zone, classify]
          simp only [recordReport_eq, readingOf_eq]
          rfl
        rw [listed, if_neg (by rintro ⟨untranslated, unforwarded⟩; simp_all)]
        show (if c = .pass ∨ w.forward = true then offerForward _ (checkRole w c x.record (classChecked w x.record heard))
          else checkRole w c x.record (classChecked w x.record heard)) = _
        rw [act]
        rfl
    · have ran := activeRun_unlisted unlisted
      rw [translateUnlisted_eq] at ran
      refine ⟨unlistedReported x.record heard, done _ ran, fun found => ?_, fun lost => ?_⟩
      · exact if_neg (by simpa [Option.isNone_iff_eq_none] using found)
      · have misses : unlistedReported x.record heard = _ := if_pos (Option.isNone_iff_eq_none.2 lost)
        rw [misses]
        exact reportUnordered_cases _ _ _ heard
  · intro cache a role last second keyed kept implausible
    have implausible : last.implausible = implausible := by
      cases last with
      | presence => rfl
      | absence => rfl
      | reading t =>
        simp only [Report.implausible, plausible, implausible]
        rw [← Bool.decide_and, ← decide_not]
        exact decide_eq_decide.2 (by omega)
    have entry (b : Nat) := cacheEntry_writeCache keyed a role last second b
    refine ⟨insertAscending_ascends _ keyed, fun e cached => ?_, fun absent => ?_, fun b other => ?_⟩
    · rw [entry, if_pos rfl, cached, implausible]; rfl
    · rw [entry, if_pos rfl, absent, implausible]; rfl
    · rw [entry, if_neg other]

end
end Sys2Proof.Machine
end

/-! # Records that reach no zone, and PRESENCE -/

section
namespace Sys2Proof.Machine

section
variable {s t u : State} {w : Window} {x : Translation}

/-! ## Unlisted and muted sources (R45, R48) -/

/-- A translation outside rehearsal is its active part. -/
theorem translate_of_not_rehearsing (x : Translation) (still : s.staging ≠ .rehearsing) :
    translate x s = { activeRun x s with engine := { (activeRun x s).engine with current := none } } := by
  rw [translate_eq, if_neg (fun both => still both.2)]

/-- What an unlisted record reports before it goes up. -/
theorem unlistedReported_frame (r : IngressRecord) (s : State) :
    let t := unlistedReported r s
    t = { s with notices := t.notices, uplink := t.uplink, freeCount := t.freeCount }
      ∧ t.uplink = { s.uplink with notices := t.uplink.notices } := by
  dsimp only [unlistedReported]
  split
  · obtain eq | eq := reportUnordered_cases .classifierMiss .unlistedSource (some r.frame.source.toNat) s
    all_goals
      rw [eq]
      refine ⟨rfl, ?_⟩
      rw [report_uplink, report_uplink]
  · exact ⟨rfl, report_uplink ..⟩

theorem unlistedReported_notice (r : IngressRecord) (s : State) (c : Condition) :
    (unlistedReported r s).notice c =
      if c = .unlistedSource then (s.notice .unlistedSource).reported (some r.frame.source.toNat)
      else if c = .classifierMiss ∧ winningEntry s.active.classifier r.frame = none then
        (s.notice .classifierMiss).reported (some r.frame.source.toNat)
      else s.notice c := by
  have drawn (d : Condition) : ({ s with freeCount := s.freeCount + 1 } : State).notice d = s.notice d := rfl
  by_cases lost : winningEntry s.active.classifier r.frame = none
  · rw [unlistedReported, if_pos (Option.isNone_iff_eq_none.2 lost)]
    obtain eq | eq := reportUnordered_cases .classifierMiss .unlistedSource (some r.frame.source.toNat) s
    · rw [eq]
      simp only [notice_report, drawn, lost, and_true, reduceCtorEq, if_false]
    · rw [eq]
      simp only [notice_report, drawn, lost, and_true, reduceCtorEq, if_false]
      split
      · next eq => subst eq; rfl
      · rfl
  · rw [unlistedReported, if_neg (by simpa [Option.isNone_iff_eq_none] using lost), notice_report]
    simp [lost]

/-- A copy goes up on an open floor alone, and joins a queue that has room (R48, R125). -/
theorem openFloor_offerForward (closed : Bool) (copy : FieldUp) (s : State) :
    let t := if closed then s else offerForward copy s
    let room := s.link = .up ∧ s.uplink.forwards.length < 128
    t = { s with uplink := t.uplink }
      ∧ t.uplink =
        { s.uplink with
          forwards := if closed = false ∧ room then s.uplink.forwards ++ [copy] else s.uplink.forwards
          forwardDiscards :=
            if closed = false ∧ ¬room then advanceCount s.uplink.forwardDiscards else s.uplink.forwardDiscards } := by
  dsimp only
  cases closed with
  | true => simp
  | false =>
    by_cases room : s.link = .up ∧ s.uplink.forwards.length < 128
    · simp [offerForward, room]
    · simp [offerForward, room]

/-- What an unlisted record leaves: its notices, and its copy on an open floor (R48). -/
theorem translateUnlisted_effect (closed : Bool) (r : IngressRecord) (s : State) :
    let t := translateUnlisted closed r s
    let room := s.link = .up ∧ s.uplink.forwards.length < 128
    t = { s with notices := t.notices, uplink := t.uplink, freeCount := t.freeCount }
      ∧ t.uplink =
        { s.uplink with
          notices := t.uplink.notices
          forwards :=
            if closed = false ∧ room then
              s.uplink.forwards
                ++ [{ segment := r.segment, zone := 0, cls := classOf s.active.classifier r.frame, frame := r.frame }]
            else s.uplink.forwards
          forwardDiscards :=
            if closed = false ∧ ¬room then advanceCount s.uplink.forwardDiscards else s.uplink.forwardDiscards }
      ∧ ∀ c, t.notice c = (unlistedReported r s).notice c := by
  obtain ⟨frame, uplink⟩ := unlistedReported_frame r s
  obtain ⟨gone, up⟩ := openFloor_offerForward closed
    { segment := r.segment, zone := 0, cls := classOf s.active.classifier r.frame, frame := r.frame } (unlistedReported r s)
  rw [← translateUnlisted_eq] at gone up
  have link : (unlistedReported r s).link = s.link := by rw [frame]
  have forwards : (unlistedReported r s).uplink.forwards = s.uplink.forwards := by rw [uplink]
  have discards : (unlistedReported r s).uplink.forwardDiscards = s.uplink.forwardDiscards := by rw [uplink]
  rw [link, forwards, discards] at up
  generalize translateUnlisted closed r s = t at gone up ⊢
  refine ⟨?_, ?_, fun c => ?_⟩
  · rw [gone, frame]
  · rw [up, uplink]
  · rw [gone]
    rfl

/-- Settles O33: an unlisted record reports and goes up, a muted one is checked for its place. -/
theorem unlistedAndMutedReachNoZone : Obligations.UnlistedAndMutedReachNoZone := by
  intro s x running taken still a
  have completes := (execTranslationCompletion_due running taken).trans (congrArg Host.Outcome.next (translate_of_not_rehearsing x still))
  refine ⟨fun unlisted => ?_, fun w listed untranslated unforwarded => ?_⟩
  · rw [activeRun_unlisted unlisted] at completes
    refine ⟨_, completes, ?_⟩
    obtain ⟨frame, uplink, notices⟩ := translateUnlisted_effect x.closedFloor x.record (markHeard a s)
    have notice (c : Condition) := (notices c).trans (unlistedReported_notice x.record (markHeard a s) c)
    refine ⟨(notice _).trans (if_pos rfl), (notice _).trans ?_, fun c ne ne' => (notice c).trans ?_, uplink, ?_⟩
    · simp only [reduceCtorEq, if_false, true_and]
      rfl
    · rw [if_neg ne, if_neg (fun both => ne' both.1)]
      rfl
    · rw [frame]
      rfl
  · have place : activeRun x s = _ := (activeRun_listed listed).trans
      ((translateListed_eq ..).trans (if_pos ⟨untranslated, unforwarded⟩))
    rw [place, placeChecked_eq] at completes
    rw [completes]
    split
    · rfl
    · rfl

/-! ## PRESENCE (R87) -/

theorem offerCommand_presence (n : Nat) (c : CommandEntry) (table : List PresenceEntry) (s : State) :
    offerCommand n c { s with presence := table } = { offerCommand n c s with presence := table } := by
  have other : acceptCommand (({ s with presence := table } : State).segment n).commands c = acceptCommand (s.segment n).commands c := rfl
  rw [offerCommand, offerCommand, other]
  cases acceptCommand (s.segment n).commands c with
  | none => rfl
  | some q => rfl

theorem offerCommands_presence (cs : List (Nat × CommandEntry)) (table : List PresenceEntry) (s : State) :
    offerCommands cs { s with presence := table } = { offerCommands cs s with presence := table } := by
  induction cs generalizing s with
  | nil => rfl
  | cons c cs ih =>
    show offerCommands cs (offerCommand c.1 c.2 _) = _
    rw [offerCommand_presence, ih]
    rfl

theorem afterEvent_presence (z : Nat) (after : ZoneState) (table : List PresenceEntry) (s : State) :
    ({ s with presence := table } : State).afterEvent z after = { s.afterEvent z after with presence := table } := by
  have issue : levelIssue z (s.record z).normalFade { s.setZone z after with presence := table }
      = { levelIssue z (s.record z).normalFade (s.setZone z after) with presence := table } := offerCommands_presence ..
  have zone : ({ s with presence := table } : State).zone z = s.zone z := rfl
  have record : ({ s with presence := table } : State).record z = s.record z := rfl
  have changed : ({ s with presence := table } : State).setZone z after = { s.setZone z after with presence := table } := rfl
  simp only [State.afterEvent, zone, record, changed, issue]
  split <;> split <;> rfl

/-- A present zone of a valid bank has its on level at least its min-on level (check 4 of Table 8-3). -/
theorem Bank.Valid.minOn_le_onLevel {b : Bank} (valid : b.Valid) {z : Nat} (present : (b.zone z).present = true) :
    (b.zone z).minOn ≤ (b.zone z).onLevel := by
  obtain ⟨low, high⟩ := Bank.isZone_of_present present
  obtain ⟨-, passes⟩ := valid
  obtain ⟨-, -, -, levels, -⟩ := (firstFailure_eq_none_iff b).1 passes
  simpa [present] using find_zoneNumbers_eq_none.1 levels z low high

/-- A cached entry has the role of the window its address lies in (R99). -/
theorem State.Law.cached_role (h : s.Law) {a : Nat} (listed : lookup s.active.windows a = some w) :
    ((cacheEntry s.cache a).map CacheEntry.role).getD w.role = w.role := by
  cases found : cacheEntry s.cache a with
  | none => rfl
  | some e =>
    obtain ⟨⟨v, holds, role⟩, -⟩ := h.cache e (List.mem_of_find?_eq_some found)
    have address : e.address = a := by simpa using List.find?_some found
    rw [address, listed] at holds
    obtain rfl := Option.some.inj holds
    exact role.symm

theorem winningEntry_of_acting {table : Vector ClassifierEntry 32} {f : FieldFrame} (acts : classOf table f ≠ .pass) :
    winningEntry table f ≠ none := by
  intro none
  rw [classOf, none] at acts
  exact acts rfl

theorem ZoneState.SameButFlags.symm {a b : ZoneState} (h : a.SameButFlags b) : b.SameButFlags a := by
  rw [SameButFlags] at h ⊢
  rw [h]

theorem ZoneState.SameButFlags.of_eq {a b : ZoneState} (h : a = b) : a.SameButFlags b := by rw [h]; rfl

theorem classChecked_cache (w : Window) (r : IngressRecord) (s : State) : (classChecked w r s).cache = s.cache := by
  simp only [classChecked, placeChecked]
  split <;> split <;> rfl

/-- A PRESENCE from a member occupancy sensor is an event at its zone, and a report to the cache. -/
theorem translateListed_presence (h : s.Law) (r : IngressRecord) (listed : w ∈ s.active.windows) (translates : w.translate = true)
    (sensor : w.role = .occupancySensor) (presence : classOf s.active.classifier r.frame = .presence) :
    let reached := (classChecked w r s).afterEvent w.zone ((s.zone w.zone).seen (s.record w.zone))
    let acted : State := { reached with cache := writeCache s.cache r.frame.source.toNat w.role .presence r.second }
    translateListed w r s =
      if w.forward = true then
        offerForward { segment := r.segment, zone := w.zone, cls := .presence, frame := r.frame } acted
      else acted := by
  obtain ⟨valid, -⟩ := h.plan
  have present := valid.zone_present listed translates
  have numbered := Bank.isZone_of_present present
  obtain ⟨low, high⟩ := numbered
  have seen : (s.zone w.zone).onClass (s.record w.zone) .presence = (s.zone w.zone).seen (s.record w.zone) :=
    ZoneState.onPresence_eq_seen (h.record_inRange w.zone) (valid.minOn_le_onLevel present) (h.zone_sound w.zone).level
  have cache : ((classChecked w r s).afterEvent w.zone ((s.zone w.zone).seen (s.record w.zone))).cache = s.cache := by
    obtain ⟨acts, -⟩ := afterEvent_acts low high ((s.zone w.zone).seen (s.record w.zone)) (classChecked w r s)
    exact (congrArg State.cache acts.frame :).trans (classChecked_cache w r s)
  have acted : checkRole w .presence r (classChecked w r s) = _ := checkRole_classChecked fun _ => ⟨low, high⟩
  simp only [translates, sensor, seen, Role.accepts, reduceCtorEq, false_or, if_false, if_true] at acted
  rw [recordReport_eq, cache] at acted
  rw [translateListed_eq, presence, if_neg (by simp [translates])]
  simp only [acted, sensor, reduceCtorEq, false_or]

/-- Settles O31: the event at the zone, and the report to the cache. -/
theorem presenceActsOnItsZone : Obligations.PresenceActsOnItsZone := by
  intro s x w h running taken still listed translates sensor presence
  have completes := (execTranslationCompletion_due running taken).trans (congrArg Host.Outcome.next (translate_of_not_rehearsing x still))
  rw [activeRun_listed listed] at completes
  refine ⟨_, completes, ?_⟩
  obtain ⟨valid, -⟩ := h.plan
  obtain ⟨cacheKeyed, -⟩ := h.table
  obtain ⟨low, high⟩ := Bank.isZone_of_present (valid.zone_present (mem_of_lookup listed) translates)
  have same : ((markHeard x.record.frame.source.toNat s).zone w.zone).seen ((markHeard x.record.frame.source.toNat s).record w.zone)
    = (s.zone w.zone).seen (s.record w.zone) := rfl
  have acted := translateListed_presence (h.markHeard x.record.frame.source.toNat) x.record (mem_of_lookup listed) translates sensor presence
  dsimp only at acted
  rw [same] at acted
  obtain ⟨-, checked⟩ := classChecked_keeps w x.record (markHeard x.record.frame.source.toNat s)
  obtain ⟨acts, marks⟩ := afterEvent_acts low high ((s.zone w.zone).seen (s.record w.zone))
    (classChecked w x.record (markHeard x.record.frame.source.toNat s))
  have zones : (translateListed w x.record (markHeard x.record.frame.source.toNat s)).zones
      = ((classChecked w x.record (markHeard x.record.frame.source.toNat s)).afterEvent w.zone
          ((s.zone w.zone).seen (s.record w.zone))).zones := by
    rw [acted]
    split <;> rfl
  have cache : (translateListed w x.record (markHeard x.record.frame.source.toNat s)).cache
      = writeCache s.cache x.record.frame.source.toNat w.role .presence x.record.second := by
    rw [acted]
    split <;> rfl
  have zone (y : Nat) := congrArg (fun table => nth table ZoneState.idle y) zones
  have entry (b : Nat) : cacheEntry (translateListed w x.record (markHeard x.record.frame.source.toNat s)).cache b = _ :=
    (congrArg (cacheEntry · b) cache).trans (cacheEntry_writeCache cacheKeyed _ w.role .presence x.record.second b)
  refine ⟨?_, fun placed unforwarded => ?_, fun y other => ?_, ?_, fun b other => ?_⟩
  · refine ZoneState.SameButFlags.symm ?_
    exact marks.trans (.of_eq (zone w.zone).symm)
  · have whole : classChecked w x.record (markHeard x.record.frame.source.toNat s) = markHeard x.record.frame.source.toNat s := by
      rw [classChecked_eq, placeChecked_eq, if_pos placed]
      exact if_neg (winningEntry_of_acting (by simp [markHeard, presence]))
    have reached : (markHeard x.record.frame.source.toNat s).afterEvent w.zone ((s.zone w.zone).seen (s.record w.zone)) = _ :=
      afterEvent_presence w.zone ((s.zone w.zone).seen (s.record w.zone))
        (markHeard x.record.frame.source.toNat s).presence s
    obtain ⟨kept, -⟩ := afterEvent_acts low high ((s.zone w.zone).seen (s.record w.zone)) s
    rw [whole, unforwarded] at acted
    have engine : (s.afterEvent w.zone ((s.zone w.zone).seen (s.record w.zone))).engine = s.engine := (congrArg State.engine kept.frame :)
    dsimp only
    rw [acted]
    simp only [Bool.false_eq_true, if_false]
    rw [reached]
    dsimp only
    rw [engine]
    rfl
  · have same : (classChecked w x.record (markHeard x.record.frame.source.toNat s)).zone y = s.zone y :=
      congrArg (fun table => nth table ZoneState.idle y) checked
    exact (zone y).trans ((acts.other y other).trans same)
  · refine ⟨_, (entry _).trans (if_pos rfl), ?_, rfl, rfl, rfl⟩
    exact (h.cached_role listed).trans sensor
  · exact (entry b).trans (if_neg other)

end
end Sys2Proof.Machine
end

/-! # How a sweep goes on, and the withdrawal of a validation (R136, R143, R166, R168) -/

section
namespace Sys2Proof.Machine

section
variable {s t u v : State}

/-! ## The end of a sweep, and its next part -/

theorem nextZone_isSome_iff {p : Nat → Bool} {after : Nat} (numbered : ∀ y, p y = true → 1 ≤ y ∧ y ≤ 255) :
    (nextZone p after).isSome = true ↔ ∃ y, after < y ∧ p y = true := by
  rw [Option.isSome_iff_ne_none, ne_eq, nextZone_eq_none]
  constructor
  · intro some
    by_contra none
    exact some fun y _ _ above => by simpa using fun holds => none ⟨y, above, holds⟩
  · rintro ⟨y, above, holds⟩ none
    obtain ⟨low, high⟩ := numbered y holds
    simp [none y low high above] at holds

theorem endSweep_ends (s : State) : s.SweepEnds (endSweep s) := by
  refine ⟨fun none => ?_, fun waits free => ?_, fun waits cutting free => ?_, fun waits cutting deferred => ?_⟩
  · rw [endSweep, if_pos none]
    simp only [none]
  · rw [endSweep, if_neg waits, if_neg free]
  · rw [endSweep, if_neg waits, if_pos cutting, deferSweep, if_neg (by simp [free])]
  · rw [endSweep, if_neg waits, if_pos cutting, deferSweep, if_pos deferred]

/-- Parts with nothing left to do are passed over: a sweep goes the same way from each of them. -/
theorem sweepTo_congr {p q : SweepPhase} (same : settledPhase s p = settledPhase s q) : sweepTo p s = sweepTo q s := by
  rw [sweepTo, sweepTo, same]

theorem sweepTo_of_settled {p : SweepPhase} (settled : settledPhase s p = p) (goes : p ≠ .idle) :
    sweepTo p s = { s with sweep := { s.sweep with phase := p } } := by
  rw [sweepTo, settled, if_neg goes]

theorem sweepTo_idle_eq (s : State) : sweepTo .idle s = endSweep s := if_pos rfl

theorem State.needsRefresh_iff (s : State) (y : Nat) :
    s.needsRefresh y = true ↔ (s.record y).present = true ∧ (s.zone y).outputIncomplete = true ∧ (s.zone y).frozen = false := by
  simp [State.needsRefresh, and_assoc]

theorem sweepTo_refresh_goesOn (after : Nat) (s : State) : s.RefreshGoesOn after (sweepTo (.refresh after) s) := by
  have exact_left : (nextZone s.needsRefresh after).isSome = true ↔ ∃ y, after < y ∧ (s.record y).present = true
      ∧ (s.zone y).outputIncomplete = true ∧ (s.zone y).frozen = false := by
    simp only [nextZone_isSome_iff fun y needs => Bank.isZone_of_present ((s.needsRefresh_iff y).1 needs).1, s.needsRefresh_iff]
  refine ⟨fun left => sweepTo_of_settled (if_pos (exact_left.2 left)) nofun, fun none => ?_⟩
  have idle : settledPhase s (.refresh after) = settledPhase s .idle := if_neg (none ∘ exact_left.1)
  rw [sweepTo_congr idle, sweepTo_idle_eq]
  exact endSweep_ends s

theorem sweepTo_shadow_goesOn (after : Nat) (s : State) : s.ShadowGoesOn after (sweepTo (.shadow after) s) := by
  have exact_left : (s.staging = .rehearsing ∧ (nextZone (fun z => (s.stagedRecord z).present) after).isSome = true)
      ↔ s.staging = .rehearsing ∧ ∃ y, after < y ∧ (s.stagedRecord y).present = true := by
    rw [nextZone_isSome_iff (p := fun z => (s.stagedRecord z).present) fun y => Bank.isZone_of_present]
  refine ⟨fun left => sweepTo_of_settled (if_pos (exact_left.2 left)) nofun, fun none => ?_⟩
  have passed : settledPhase s (.shadow after) = settledPhase s (.refresh 0) := if_neg (none ∘ exact_left.1)
  rw [sweepTo_congr passed]
  exact sweepTo_refresh_goesOn 0 s

theorem sweepTo_temperatures_goesOn (after : Nat) (s : State) : s.TemperaturesGoOn after (sweepTo (.temperatures after) s) := by
  have exact_left : (nextZone (fun z => (s.record z).present) after).isSome = true ↔ ∃ y, after < y ∧ (s.record y).present = true :=
    nextZone_isSome_iff fun y => Bank.isZone_of_present
  refine ⟨fun left => sweepTo_of_settled (if_pos (exact_left.2 left)) nofun, fun none => ?_⟩
  have passed : settledPhase s (.temperatures after) = settledPhase s (.shadow 0) := if_neg (none ∘ exact_left.1)
  rw [sweepTo_congr passed]
  exact sweepTo_shadow_goesOn 0 s

theorem settleSweep_goesOn (s : State) : s.SweepGoesOn (settleSweep s) := by
  have stays {p : SweepPhase} (phase : s.sweep.phase = p) (settled : settledPhase s p = p) (goes : p ≠ .idle) : sweepTo p s = s := by
    rw [sweepTo_of_settled settled goes, ← phase]
  cases phase : s.sweep.phase with
  | idle => simp [State.SweepGoesOn, settleSweep, phase]
  | starting => simpa [State.SweepGoesOn, settleSweep, phase] using stays phase rfl nofun
  | presence => simpa [State.SweepGoesOn, settleSweep, phase] using stays phase rfl nofun
  | temperatures after => simpa [State.SweepGoesOn, settleSweep, phase] using sweepTo_temperatures_goesOn after s
  | shadow after => simpa [State.SweepGoesOn, settleSweep, phase] using sweepTo_shadow_goesOn after s
  | refresh after => simpa [State.SweepGoesOn, settleSweep, phase] using sweepTo_refresh_goesOn after s

/-! ## What the settling of a sweep reads -/

/-- The states agree in all that the settling of a sweep reads. -/
structure State.SweepsAlike (u v : State) : Prop where
  sweep : v.sweep = u.sweep
  active : v.active = u.active
  zones : v.zones = u.zones
  staging : v.staging = u.staging
  staged : u.staging = .rehearsing → v.staged = u.staged

theorem State.SweepsAlike.settledPhase (h : u.SweepsAlike v) (p : SweepPhase) : settledPhase v p = settledPhase u p := by
  obtain ⟨-, active, zones, staging, staged⟩ := h
  have needs : v.needsRefresh = u.needsRefresh := by
    funext y
    simp only [State.needsRefresh, State.record, State.zone, active, zones]
  have refresh (after : Nat) : settleRefresh v after = settleRefresh u after := by rw [settleRefresh, settleRefresh, needs]
  have shadow (after : Nat) : settleShadow v after = settleShadow u after := by
    rw [settleShadow, settleShadow, staging, refresh]
    by_cases rehearses : u.staging = .rehearsing
    · have same : (fun z => (v.stagedRecord z).present) = fun z => (u.stagedRecord z).present := by
        funext z
        rw [State.stagedRecord, State.stagedRecord, staged rehearses]
      rw [same]
    · simp only [rehearses, false_and, if_false]
  have temperatures (after : Nat) : settleTemperatures v after = settleTemperatures u after := by
    have same : (fun z => (v.record z).present) = fun z => (u.record z).present := by
      funext z
      rw [State.record, State.record, active]
    rw [settleTemperatures, settleTemperatures, same, shadow]
  cases p with
  | idle => rfl
  | starting => rfl
  | presence => rfl
  | temperatures after => exact temperatures after
  | shadow after => exact shadow after
  | refresh after => exact refresh after

/-- Outside CUTTING a sweep is settled alike in states that agree in what is read. -/
theorem State.SweepsAlike.settleSweep (h : u.SweepsAlike v) (free : u.staging ≠ .cutting) :
    Machine.settleSweep v = { v with sweep := (Machine.settleSweep u).sweep } := by
  have settled := h.settledPhase u.sweep.phase
  obtain ⟨sweep, -, -, staging, -⟩ := h
  have free' : v.staging ≠ .cutting := by rwa [staging]
  simp only [Machine.settleSweep, sweepTo, endSweep, sweep, settled, if_neg free, if_neg free']
  split
  · rw [← sweep]
  · split
    · split <;> rfl
    · rfl

/-! ## Leaving a staging state -/

theorem leaveTo_eq_of_not_rehearsing (next : StagingState) (still : s.staging ≠ .rehearsing) : leaveTo next s = { s with staging := next } :=
  if_neg still

theorem leaveTo_eq_of_rehearsing (next : StagingState) (rehearses : s.staging = .rehearsing) :
    leaveTo next s = settleSweep (s.left next) := by
  rw [leaveTo, if_pos rehearses, State.left, State.engineLeft, if_pos rehearses, if_pos rehearses]
  rfl

/-- Outside CUTTING a change of the staging state touches it, the shadow, the engine and the sweep alone. -/
theorem leaveTo_frame {next : StagingState} (free : next ≠ .cutting) (s : State) :
    leaveTo next s = { s.left next with sweep := (leaveTo next s).sweep } := by
  by_cases rehearses : s.staging = .rehearsing
  · rw [leaveTo_eq_of_rehearsing next rehearses]
    obtain eq | eq := settleSweep_cases (s.left next)
    · rw [eq]
    · rw [eq]
      exact sweepTo_frame _ _ free
  · rw [leaveTo_eq_of_not_rehearsing next rehearses, State.left, State.engineLeft, if_neg rehearses, if_neg rehearses]

theorem leaveTo_sweep_of_not_rehearsing (next : StagingState) (still : s.staging ≠ .rehearsing) :
    (leaveTo next s).sweep = s.sweep := by
  rw [leaveTo_eq_of_not_rehearsing next still]

/-- The end of rehearsal lets a sweep go on from where it was, whatever else the event changes. -/
theorem leaveTo_goesOn {next : StagingState} (rehearses : s.staging = .rehearsing) (free : next ≠ .cutting) (ends : next ≠ .rehearsing)
    (staging : t.staging = next) (active : t.active = s.active) (zones : t.zones = s.zones)
    (sweep : t.sweep = (leaveTo next s).sweep) : ({ t with sweep := s.sweep } : State).SweepGoesOn t := by
  have alike : (s.left next).SweepsAlike { t with sweep := s.sweep } :=
    ⟨rfl, active, zones, staging, fun still => absurd still ends⟩
  have settled := alike.settleSweep free
  rw [← leaveTo_eq_of_rehearsing next rehearses, ← sweep] at settled
  have goes := settleSweep_goesOn { t with sweep := s.sweep }
  rw [settled] at goes
  exact goes

/-- What the withdrawal of a validation leaves (R136). -/
theorem withdraw_effect (s : State) :
    let t := withdraw s
    t.staging = .editing
      ∧ t.result = { outcome := .failed, check := some .pinConflict, index := s.result.index, reliance := false }
      ∧ t.notice .stageRejected = (s.notice .stageRejected).reported none
      ∧ (∀ c, c ≠ .stageRejected → t.notice c = s.notice c)
      ∧ t.shadow = (s.left .editing).shadow
      ∧ t.engine = s.engineLeft
      ∧ t.sweep = (leaveTo .editing s).sweep
      ∧ t.uplink = { s.uplink with notices := t.uplink.notices }
      ∧ t =
        { s with
          staging := t.staging, result := t.result, shadow := t.shadow, engine := t.engine, sweep := t.sweep
          notices := t.notices, uplink := t.uplink } := by
  have frame := leaveTo_frame (by simp : StagingState.editing ≠ .cutting) s
  generalize sweep : (leaveTo .editing s).sweep = w at frame
  simp only [withdraw, frame]
  refine ⟨rfl, rfl, ?_, fun c ne => ?_, rfl, rfl, rfl, ?_, rfl⟩
  · exact (notice_report ..).trans (if_pos rfl)
  · exact (notice_report ..).trans (if_neg ne)
  · exact report_uplink ..

/-- Settles O41: the withdrawal leaves rehearsal, marks the result and reports. -/
theorem maintLossWithdrawsReliance : Obligations.MaintLossWithdrawsReliance := by
  intro s active h withdraws
  have reliance := h.reliance
  refine ⟨fun keeps => congrArg Host.Outcome.next (if_neg fun all => keeps all.2), fun ⟨inactive, past, relies⟩ => ?_⟩
  subst inactive
  refine ⟨withdraw { s with maint := false }, congrArg Host.Outcome.next (if_pos ⟨reliance past relies, rfl, past, relies⟩), ?_⟩
  obtain ⟨staging, result, rejected, others, shadow, engine, sweep, uplink, frame⟩ := withdraw_effect { s with maint := false }
  refine ⟨staging, result, rejected, others, shadow.trans (h.left_shadow .editing), engine, fun validated => ?_, fun rehearses => ?_,
    uplink, frame⟩
  · exact sweep.trans (leaveTo_sweep_of_not_rehearsing .editing (s := { s with maint := false }) (by simp [validated]))
  · exact leaveTo_goesOn (s := { s with maint := false }) rehearses (by simp) (by simp) staging ((congrArg State.active frame :))
      ((congrArg State.zones frame :)) sweep

end
end Sys2Proof.Machine
end

/-! # The trunk port (chapters 7 and 11) -/

section
namespace Sys2Proof.Machine

section
variable {s t u : State}

/-! ## The bytes of the uplink (Tables 11-1, 11-8) -/

theorem signedBytes_eq (n : Int) :
    signedBytes n = [byte ((n % 65536).toNat / 256), byte (n % 65536).toNat] := by
  rw [signedBytes, wordBytes_eq, BitVec.toNat_ofInt]
  rfl

theorem NoticeRecord.bytes_eq (n : NoticeRecord) :
    n.bytes =
      [byte n.condition.code, if n.condition.code ∈ [0, 3, 4, 11, 12, 17, 18, 20] then 0 else 1] ++ twoBytes (n.scope.getD 65535)
        ++ twoBytes n.counter := by
  have isError : n.condition.isError = true ↔ n.condition.code ∈ [0, 3, 4, 11, 12, 17, 18, 20] := by
    cases n.condition <;> decide
  simp only [NoticeRecord.bytes, scopeBytes, isError]

theorem flagBits_two (a b : Bool) : flagBits [a, b] = byte ((if a then 1 else 0) + (if b then 2 else 0)) := by
  cases a <;> cases b <;> rfl

theorem State.uplinkFrame_wire (s : State) (kind tag : Byte) (body : List Byte) :
    let covered := [0, s.trunkAddress, kind, tag, byte body.length] ++ body
    (s.uplinkFrame kind tag body).wire = covered ++ [byte ((crc16 covered).toNat / 256), byte (crc16 covered).toNat] :=
  TrunkFrame.wire_eq _

theorem execTrunkTransmitStart_due (running : s.resetLow = false) (free : s.trunkTransmitting = none) (up : s.link = .up)
    (waits : s.uplink.holdsEntry = true) : exec .trunkTransmitStart s = .next (startTrunk s) := by
  have due : s.trunkStartDue = true := by simp [State.trunkStartDue, State.running, running, free, up, waits]
  exact congrArg Host.Outcome.next (if_pos due)

/-- Settles O37: the arbiter takes from the first queue that holds an entry. -/
theorem uplinkGrantsByPriority : Obligations.UplinkGrantsByPriority := by
  refine ⟨fun s running => ⟨?_, fun free up => ?_⟩, by decide, by decide⟩
  · exact congrArg Host.Outcome.next (if_pos (by simp [State.running, running]))
  intro u two signed wire noticeBytes reportBytes copyBytes traceBytes
  have grants (waits : s.uplink.holdsEntry = true) := execTrunkTransmitStart_due running free up waits
  have sent (kind tag : Byte) (body : List Byte) : some (s.uplinkFrame kind tag body).wire = wire kind tag body :=
    congrArg some (s.uplinkFrame_wire kind tag body)
  have notice : NoticeRecord.bytes = noticeBytes := funext NoticeRecord.bytes_eq
  have signs (n : Int) : signedBytes n = signed n := signedBytes_eq n
  have report (r : ZoneReport) : r.bytes = reportBytes r := by
    simp only [ZoneReport.bytes, temperatureBytes, damperBytes, signs, flagBits_two]
    rfl
  have copy (f : FieldUp) : f.bytes = copyBytes f := by
    rw [FieldUp.bytes, FieldFrame.bytes_eq]
    rfl
  have trace (t : Trace) : t.bytes = traceBytes t := by
    simp only [Trace.bytes, traceBytes]
    cases t.kind <;> rfl
  have second : u = s.uplink := rfl
  clear_value u
  subst second
  refine ⟨fun r rest replies => ?_, fun replies notices => ?_, fun r rest replies notices reports => ?_,
    fun f rest replies notices reports forwards => ?_, fun t rest replies notices reports forwards traces => ?_⟩
  · rw [grants (by simp [Uplink.holdsEntry, replies]), startTrunk]
    simp only [replies, sent]
  · obtain ⟨n, ns, eq⟩ := List.exists_cons_of_ne_nil notices
    rw [grants (by simp [Uplink.holdsEntry, eq]), startTrunk]
    simp only [replies, eq, sent, notice]
  · rw [grants (by simp [Uplink.holdsEntry, reports]), startTrunk]
    simp only [replies, notices, reports, sent, report]
    rfl
  · rw [grants (by simp [Uplink.holdsEntry, forwards]), startTrunk]
    simp only [replies, notices, reports, forwards, sent, copy]
  · rw [grants (by simp [Uplink.holdsEntry, traces]), startTrunk]
    simp only [replies, notices, reports, forwards, traces, sent, trace]

/-! ## Received frames (R175, R176) -/

theorem execTrunkFrameReceived_due (running : s.resetLow = false) (up : s.link = .up) (bytes : List Byte) :
    exec (.trunkFrameReceived bytes) s =
      .next
        (match receiveTrunk bytes with
        | some f => if f.destination = s.trunkAddress ∨ f.destination = 255 then acceptTrunk f s else s
        | none => s) := by
  have due : (s.running && decide (s.link = .up)) = true := by simp [State.running, running, up]
  exact congrArg Host.Outcome.next (if_pos due)

/-- The conditions of R175, any of which discards a burst. -/
theorem receiveTrunk_discarded {bytes : List Byte}
    (bad : bytes.length < 7
      ∨ ∃ destination source kind tag len rest, bytes = destination :: source :: kind :: tag :: len :: rest
        ∧ (bytes.length ≠ 7 + len.toNat ∨ 240 < len.toNat
          ∨ bytes.drop (5 + len.toNat) ≠ checkBytes (bytes.take (5 + len.toNat)) ∨ kind = 0 ∨ 7 < kind.toNat)) :
    receiveTrunk bytes = none := by
  unfold receiveTrunk
  split
  · next destination source kind tag len rest =>
    obtain short | ⟨_, _, _, _, _, _, eq, bad⟩ := bad
    · exact if_pos (by omega)
    · simp only [List.cons.injEq] at eq
      obtain ⟨rfl, rfl, rfl, rfl, rfl, rfl⟩ := eq
      by_cases length : (destination :: source :: kind :: tag :: len :: rest).length ≠ 7 + len.toNat
      · exact if_pos length
      rw [if_neg length]
      by_cases long : 240 < len.toNat
      · exact if_pos long
      rw [if_neg long]
      by_cases check : (destination :: source :: kind :: tag :: len :: rest).drop (5 + len.toNat)
          ≠ checkBytes ((destination :: source :: kind :: tag :: len :: rest).take (5 + len.toNat))
      · exact if_pos check
      rw [if_neg check]
      exact if_pos (((bad.resolve_left length).resolve_left long).resolve_left check)
  · rfl

theorem decodeFieldDown_of_length {body : List Byte} (h : body.length ≠ 8) : decodeFieldDown body = none := by
  unfold decodeFieldDown
  split
  · exact absurd rfl h
  · rfl

/-- Settles O38: a received frame by its address, kind, source and body. -/
theorem trunkFramesAreFiltered : Obligations.TrunkFramesAreFiltered := by
  refine ⟨fun s f running up short low high => ?_, fun s bytes running up bad => ?_⟩
  · intro run
    have run : run = .next (if f.destination = s.trunkAddress ∨ f.destination = 255 then acceptTrunk f s else s) := by
      simp only [run, execTrunkFrameReceived_due running up, receiveTrunk_wire short low high]
    refine ⟨fun other notAll => run.trans (congrArg Host.Outcome.next (if_neg (not_or.2 ⟨other, notAll⟩))), fun mine => ?_⟩
    rw [if_pos mine] at run
    refine ⟨fun kind station free => run.trans ?_, fun kind station full => run.trans ?_, fun kind foreign => run.trans ?_,
      fun kind bad => run.trans ?_, fun b b0 b1 b2 b3 b4 b5 b6 kind station body => run.trans ?_⟩
    · rw [acceptTrunk, if_pos kind, if_pos station, offerRequest, free]
    · obtain ⟨r, waits⟩ := Option.ne_none_iff_exists'.1 full
      rw [acceptTrunk, if_pos kind, if_pos station, offerRequest, waits]
    · rw [acceptTrunk, if_pos kind, if_neg foreign]
    · rw [acceptTrunk, if_neg kind]
      by_cases down : f.kind = 3
      · rw [if_pos down]
        by_cases station : f.source = 0
        · rw [if_pos station, decodeFieldDown_of_length (by simpa [down, station] using bad)]
        · rw [if_neg station]
      · rw [if_neg down]
    · rw [acceptTrunk, if_neg (by simp [kind]), if_pos kind, if_pos station, body]
      rfl
  · rw [execTrunkFrameReceived_due running up, receiveTrunk_discarded bad]

/-! ## The down path (R52, R53, Table 3-8) -/

/-- Table 3-8 as the search of the model makes it. -/
theorem route_eq_some_iff (valid : s.active.Valid) (d : FieldDown) (n : Nat) :
    let a := d.frame.destination.toNat
    let listed := fun w : Window => w ∈ s.active.windows ∧ w.low ≤ a ∧ a ≤ w.high
    route s d = some n ↔
      ((d.frame.kind = 1 ∨ d.frame.kind = 2 ∨ d.frame.kind = 3) ∧ d.selector ≤ 4)
        ∧ ((a = 4095 ∧ d.selector ≠ 0) ∧ n = d.selector
          ∨ (∃ w, listed w ∧ w.station = true ∧ n = if d.selector = 0 then w.segment else d.selector)
          ∨ (1 ≤ a ∧ a ≤ 4000 ∧ ∀ w, ¬listed w) ∧ d.selector ≠ 0 ∧ s.settings.closedFloor = false ∧ n = d.selector) := by
  intro a listed
  have numbered (w : Window) (h : listed w) : 1 ≤ a ∧ a ≤ 4000 := by
    obtain ⟨mem, starts, reaches⟩ := h
    exact (valid.window_inRange mem).listed_address starts reaches
  by_cases sendable : (d.frame.kind = 1 ∨ d.frame.kind = 2 ∨ d.frame.kind = 3) ∧ d.selector ≤ 4
  · have carried : ¬((d.frame.kind ≠ 1 ∧ d.frame.kind ≠ 2 ∧ d.frame.kind ≠ 3) ∨ 4 < d.selector) := by
      obtain ⟨kind, selector⟩ := sendable
      rintro (⟨one, two, three⟩ | above)
      · simp_all
      · omega
    rw [route, if_neg carried, and_iff_right sendable]
    by_cases everyone : a = 4095
    · have none (w : Window) : ¬listed w := fun h => by have := numbered w h; omega
      rw [if_pos everyone]
      by_cases zero : d.selector = 0
      · simp [everyone, none, zero]
      · simp [everyone, none, zero, eq_comm (a := n)]
    · rw [if_neg everyone]
      by_cases field : isFieldAddress a = false
      · have outside : ¬(1 ≤ a ∧ a ≤ 4000) := by simp [← isFieldAddress_iff, field]
        have none (w : Window) : ¬listed w := fun h => outside (numbered w h)
        rw [if_pos field]
        refine iff_of_false nofun fun goes => ?_
        obtain ⟨⟨all, -⟩, -⟩ | ⟨w, h, -⟩ | ⟨⟨low, high, -⟩, -⟩ := goes
        · exact everyone all
        · exact none w h
        · exact outside ⟨low, high⟩
      · have inside : 1 ≤ a ∧ a ≤ 4000 := isFieldAddress_iff.1 (by simpa using field)
        rw [if_neg field]
        cases found : lookup s.active.windows a with
        | some w =>
          have own : listed w := (lookup_eq_some_iff_mem valid.windows_ascend).1 found
          have only (v : Window) (h : listed v) : v = w := by
            have other := (lookup_eq_some_iff_mem valid.windows_ascend).2 h
            rw [found] at other
            exact (Option.some.inj other).symm
          cases station : w.station with
          | true =>
            refine ⟨fun eq => .inr (.inl ⟨w, own, station, ?_⟩), fun goes => ?_⟩
            · exact (Option.some.inj ((if_pos station).symm.trans eq)).symm
            · obtain ⟨⟨all, -⟩, -⟩ | ⟨v, h, -, eq⟩ | ⟨⟨-, -, none⟩, -⟩ := goes
              · exact absurd all everyone
              · obtain rfl := only v h
                exact (if_pos station).trans (congrArg some eq.symm)
              · exact absurd own (none w)
          | false =>
            refine iff_of_false (by simp [station]) fun goes => ?_
            obtain ⟨⟨all, -⟩, -⟩ | ⟨v, h, holds, -⟩ | ⟨⟨-, -, none⟩, -⟩ := goes
            · exact everyone all
            · obtain rfl := only v h
              simp [station] at holds
            · exact none w own
        | none =>
          have none (w : Window) : ¬listed w := fun h => by
            have other := (lookup_eq_some_iff_mem valid.windows_ascend).2 h
            rw [found] at other
            cases other
          simp [everyone, none, inside, eq_comm (a := n), and_assoc]
  · have refused : (d.frame.kind ≠ 1 ∧ d.frame.kind ≠ 2 ∧ d.frame.kind ≠ 3) ∨ 4 < d.selector := by
      by_contra both
      exact sendable (by simpa [not_or, or_iff_not_imp_left] using both)
    rw [route, if_pos refused]
    exact iff_of_false nofun fun both => sendable both.1

/-- Settles O39: a delivery joins the queue that Table 3-8 gives, when that queue has room. -/
theorem deliveryFollowsTable : Obligations.DeliveryFollowsTable := by
  intro s d valid a sendable toAll listed unlisted goes
  have routes (n : Nat) : route s d = some n ↔ goes n := route_eq_some_iff valid d n
  refine ⟨fun n chosen room => ?_, fun full => ?_⟩
  · rw [deliver, (routes n).2 chosen]
    exact if_pos room
  · cases chosen : route s d with
    | none => rw [deliver, chosen]; rfl
    | some n =>
      rw [deliver, chosen]
      exact if_neg (Nat.not_lt.2 (full n ((routes n).1 chosen)))

/-! ## Loss and restoration (R127, R172) -/

/-- The record that waits for condition `c` after a restoration. -/
def State.pendingRecord (s : State) (c : Condition) : NoticeRecord :=
  { condition := c, scope := (s.notice c).firstScope, counter := (s.notice c).counter }

/-- Offering a record of each condition adds those whose condition does not wait already. -/
theorem foldl_joinNotices {f : Condition → NoticeRecord} (names : ∀ c, (f c).condition = c) {cs : List Condition} (distinct : cs.Nodup)
    {q : List NoticeRecord} (own : ∀ x ∈ q, x = f x.condition) :
    cs.foldl (fun q c => joinNotices q (f c)) q = q ++ (cs.filter fun c => decide (∀ x ∈ q, x.condition ≠ c)).map f := by
  induction cs generalizing q with
  | nil => simp
  | cons c cs ih =>
    obtain ⟨apart, distinct⟩ := List.nodup_cons.1 distinct
    by_cases waits : ∃ x ∈ q, x.condition = c
    · have same : joinNotices q (f c) = q := by
        rw [joinNotices_of_waiting (by simpa [names] using waits)]
        refine (List.map_congr_left fun x mem => ?_).trans (List.map_id q)
        split
        · next eq => rw [own x mem, eq, names]; rfl
        · rfl
      have passed : ¬∀ x ∈ q, x.condition ≠ c := by simpa using waits
      rw [List.foldl_cons, same, ih distinct own, List.filter_cons_of_neg (by simpa using waits)]
    · have absent : ∀ x ∈ q, x.condition ≠ c := by simpa using waits
      have kept : cs.filter (fun d => decide (∀ x ∈ q ++ [f c], x.condition ≠ d)) = cs.filter fun d => decide (∀ x ∈ q, x.condition ≠ d) := by
        refine List.filter_congr fun d mem => decide_eq_decide.2 ?_
        have other : c ≠ d := fun eq => apart (eq ▸ mem)
        simp [or_imp, forall_and, names, other]
      rw [List.foldl_cons, joinNotices_of_absent (by simpa [names] using absent), ih distinct, kept,
        List.filter_cons_of_pos (by simpa using absent)]
      · simp
      · intro x mem
        obtain mem | mem := List.mem_append.1 mem
        · exact own x mem
        · obtain rfl := List.mem_singleton.1 mem
          rw [names]

theorem allConditions_ascend : (allConditions.map Condition.code).Pairwise (· < ·) := by decide

theorem allConditions_nodup : allConditions.Nodup := by decide

/-- What a restoration leaves in the notice queue (R172). -/
theorem offerPending_notices (s : State) (own : ∀ x ∈ s.uplink.notices, x = s.pendingRecord x.condition) :
    (offerPending s).uplink.notices =
      s.uplink.notices
        ++ ((allConditions.filter fun c => (s.notice c).pending && s.enabled c).filter
              fun c => decide (∀ x ∈ s.uplink.notices, x.condition ≠ c)).map s.pendingRecord :=
  foldl_joinNotices (fun _ => rfl) (allConditions_nodup.filter _) own

/-- The notice queue after a restoration, TRUNK_RESTORED's own record first when it is announced. -/
theorem restored_notices (empty : s.uplink.notices = []) :
    let u : State := report .trunkRestored none { s with link := .up }
    let announced := (s.notice .trunkRestored).pending = false ∧ s.enabled .trunkRestored = true
    let rest := (allConditions.filter fun c =>
      (u.notice c).pending && u.enabled c && decide (announced → c ≠ .trunkRestored)).map u.pendingRecord
    (offerPending u).uplink.notices = if announced then u.pendingRecord .trunkRestored :: rest else rest := by
  intro u announced rest
  have first : u.uplink.notices = if announced then [u.pendingRecord .trunkRestored] else [] := by
    split
    · next both =>
      have joined : u.uplink = _ := report_uplink_of_offered (s := { s with link := .up }) none both.1 both.2 rfl
      have scope : (u.notice .trunkRestored).firstScope = none := by
        rw [notice_report, if_pos rfl]
        exact congrArg NoticeState.firstScope (if_neg fun held => Bool.false_ne_true (both.1.symm.trans held))
      rw [joined, State.pendingRecord, scope]
      simp only [empty]
      rfl
    · next silent =>
      have kept : u.uplink = s.uplink := report_uplink_of_silent (s := { s with link := .up }) none (by
        rw [not_and_or] at silent
        simpa [State.enabled, State.notice] using silent)
      rw [kept, empty]
  have own : ∀ x ∈ u.uplink.notices, x = u.pendingRecord x.condition := by
    rw [first]
    split
    · intro x mem
      obtain rfl := List.mem_singleton.1 mem
      rfl
    · exact nofun
  have name : (u.pendingRecord .trunkRestored).condition = .trunkRestored := rfl
  have left : (allConditions.filter fun c => (u.notice c).pending && u.enabled c).filter
      (fun c => decide (∀ x ∈ u.uplink.notices, x.condition ≠ c))
      = allConditions.filter fun c => (u.notice c).pending && u.enabled c && decide (announced → c ≠ .trunkRestored) := by
    rw [List.filter_filter]
    refine List.filter_congr fun c _ => ?_
    rw [Bool.and_comm]
    refine congrArg _ (decide_eq_decide.2 ?_)
    rw [first]
    by_cases both : announced
    · simp [both, name, eq_comm]
    · simp [both]
  rw [offerPending_notices u own, left, first]
  split <;> rfl

/-- Settles O40: the records of the pending conditions join behind that of TRUNK_RESTORED. -/
theorem trunkLossAndRestoration : Obligations.TrunkLossAndRestoration := by
  intro s h running
  refine ⟨fun up => ?_, fun down => ?_⟩
  · obtain ⟨-, ⟨forwards, traces⟩, -⟩ := h.count
    have saturates {n : Nat} (k : Nat) (bound : n ≤ 65535) : advanceCountBy n k = min 65535 (n + k) := by
      rw [advanceCountBy]
      split <;> omega
    refine congrArg Host.Outcome.next ((if_pos (by simp [State.running, running, up])).trans ?_)
    simp only [Uplink.atLoss, saturates _ forwards, saturates _ traces]
  · obtain ⟨-, -, -, quiet⟩ := h.queue
    obtain ⟨-, empty, -, -⟩ := quiet down
    have queue := restored_notices empty
    generalize hu : report .trunkRestored none { s with link := .up } = u at queue
    dsimp only at queue
    have rises : ({ s with link := .up } : State).notice = s.notice := rfl
    have notice (c : Condition) : u.notice c = if c = .trunkRestored then (s.notice .trunkRestored).reported none else s.notice c := by
      rw [← hu, notice_report, rises]
    have completes : exec .trunkRestoration s = .next (offerPending u) :=
      hu ▸ congrArg Host.Outcome.next (if_pos (by simp [State.running, running, down]))
    have enabled (c : Condition) : u.enabled c = s.enabled c := by rw [← hu]; rfl
    have inRest (r : NoticeRecord) :
        r ∈ (allConditions.filter fun c => (u.notice c).pending && u.enabled c && decide
            ((s.notice .trunkRestored).pending = false ∧ s.enabled .trunkRestored = true → c ≠ .trunkRestored)).map u.pendingRecord ↔
          ∃ c, (u.notice c).pending = true ∧ u.enabled c = true
            ∧ ((s.notice .trunkRestored).pending = false ∧ s.enabled .trunkRestored = true → c ≠ .trunkRestored)
            ∧ r = u.pendingRecord c := by
      simp only [List.mem_map, List.mem_filter, mem_allConditions, true_and, Bool.and_eq_true, decide_eq_true_eq, and_assoc,
        eq_comm (a := r)]
    refine ⟨_, completes, (notice _).trans (if_pos rfl), fun c ne => (notice c).trans (if_neg ne), ?_, ?_, ?_, ?_, ?_⟩
    · intro r
      show r ∈ (offerPending u).uplink.notices ↔ ∃ c, (u.notice c).pending = true ∧ u.enabled c = true ∧ r = u.pendingRecord c
      have restored : (u.notice .trunkRestored).pending = true := by rw [notice, if_pos rfl, NoticeState.reported_pending]
      rw [queue]
      by_cases both : (s.notice .trunkRestored).pending = false ∧ s.enabled .trunkRestored = true
      · rw [if_pos both, List.mem_cons, inRest]
        constructor
        · rintro (rfl | ⟨c, pending, on, -, rfl⟩)
          · exact ⟨_, restored, (enabled _).trans both.2, rfl⟩
          · exact ⟨c, pending, on, rfl⟩
        · rintro ⟨c, pending, on, rfl⟩
          by_cases same : c = .trunkRestored
          · exact .inl (congrArg _ same)
          · exact .inr ⟨c, pending, on, fun _ => same, rfl⟩
      · rw [if_neg both, inRest]
        exact exists_congr fun c => by simp [both]
    · rw [queue]
      have distinct : ((allConditions.filter fun c => (u.notice c).pending && u.enabled c && decide
          ((s.notice .trunkRestored).pending = false ∧ s.enabled .trunkRestored = true → c ≠ .trunkRestored)).map
            u.pendingRecord).map NoticeRecord.condition |>.Nodup := by
        rw [List.map_map]
        exact (List.map_id _).symm ▸ allConditions_nodup.filter _
      split
      · next both =>
        refine List.nodup_cons.2 ⟨fun mem => ?_, distinct⟩
        obtain ⟨r, mem, eq⟩ := List.mem_map.1 mem
        obtain ⟨c, -, -, other, rfl⟩ := (inRest r).1 mem
        exact other both eq
      · exact distinct
    · refine ⟨_, queue, ?_, inRest⟩
      rw [List.map_map]
      exact allConditions_ascend.sublist (List.filter_sublist.map _)
    · have offered : (offerPending u).uplink = { u.uplink with notices := (offerPending u).uplink.notices } := rfl
      have kept := report_uplink .trunkRestored none { s with link := .up }
      rw [hu] at kept
      rw [offered, kept]
    · rw [offerPending, ← hu]
      rfl

end
end Sys2Proof.Machine
end

/-! # Requests, and those that read the device (sections 11.3 and 11.4) -/

section
namespace Sys2Proof.Machine

section
variable {s t u : State} {r : Request}

/-! ## How a request is taken and answered (R178) -/

theorem State.Takes.takeable (h : s.Takes r) : s.takeable = some r := State.takeable_eq_some.2 h

theorem State.Admits.takeable (h : s.Admits r) : s.takeable = some r := h.1.takeable

theorem requestCode_of_cons {c : Nat} (small : c < 256) {args : List Byte} : requestCode (byte c :: args) = some c := by
  rw [requestCode, List.head?_cons, Option.map_some, byte_toNat_of_lt small]

section
variable {outcome : Host.Outcome State Fault Refusal} {code : Nat} {anyDestination duringLoad : Bool} {decision : List Byte → State → Verdict}

/-- A request that the common tests let pass is answered by the decision of its command. -/
theorem exec_passed (runs : outcome = manage code anyDestination duringLoad decision s) {v : Verdict}
    (taken : s.takeable = some r) (named : requestCode r.body = some code) (long : lengthOk r.body = true)
    (here : r.broadcast = false ∨ anyDestination = true) (quiet : s.loading = false ∨ duringLoad = true)
    (decided : decision r.body.tail { s with slot := none } = v) :
    outcome = .next (v.state.answer r code v.result v.data) := by
  rw [runs, manage_taken taken named (screenRequest_eq_none long here quiet), decided]
  rfl

/-- An admitted request of the right length is answered by its decision. -/
theorem exec_admitted (runs : outcome = manage code anyDestination duringLoad decision s) {v : Verdict} {args : List Byte}
    (h : s.Admits r) (body : r.body = byte code :: args) (small : code < 256) (long : lengthOk r.body = true)
    (decided : decision args { s with slot := none } = v) :
    outcome = .next (v.state.answer r code v.result v.data) := by
  obtain ⟨taken, here, quiet⟩ := h
  exact exec_passed runs taken.takeable (by rw [body]; exact requestCode_of_cons small) long (.inl here) (.inl quiet)
    (by rw [body]; exact decided)

/-- A request of this code that a common test refuses is answered so. -/
def State.Screens (s : State) (r : Request) (outcome : Host.Outcome State Fault Refusal) (code : Nat) (anyDestination duringLoad : Bool) : Prop :=
  ∀ x, s.takeable = some r → requestCode r.body = some code →
    screenRequest r anyDestination duringLoad { s with slot := none } = some x →
    outcome = .next (({ s with slot := none } : State).answer r code x [])

theorem screens_of_manage (runs : outcome = manage code anyDestination duringLoad decision s) :
    s.Screens r outcome code anyDestination duringLoad := by
  intro x taken named screened
  rw [runs]
  simp only [manage, taken, if_pos named, screened]
  rfl

theorem execRestart_screens (s : State) (r : Request) : s.Screens r (execRestart s) 23 false false := by
  intro x taken named screened
  simp only [execRestart, taken, if_pos named, screened]
  rfl

/-- The common tests of R178, for a command of any code. -/
theorem exec_common (screens : s.Screens r outcome code anyDestination duringLoad) (h : s.Takes r) (named : requestCode r.body = some code) :
    let t : State := { s with slot := none }
    (lengthOk r.body = false → outcome = .next (t.answer r code .refused []))
    ∧ (lengthOk r.body = true → anyDestination = false → r.broadcast = true → outcome = .next (t.answer r code .refused []))
    ∧ (lengthOk r.body = true → duringLoad = false → r.broadcast = false → s.loading = true →
      outcome = .next (t.answer r code .busy [])) := by
  refine ⟨fun short => screens _ h.takeable named (if_pos short),
    fun long only all => screens _ h.takeable named ?_, fun long still here loading => screens _ h.takeable named ?_⟩
  · simp [screenRequest, long, all, only]
  · simp [screenRequest, long, here, loading, still]

theorem requestCode_of_head {c : Nat} (small : c < 256) {body : List Byte} (head : body.head? = some (byte c)) :
    requestCode body = some c := by
  rw [requestCode, head, Option.map_some, byte_toNat_of_lt small]

/-- The common tests for a command whose requests have one length. -/
theorem exec_fixed (screens : s.Screens r outcome code anyDestination duringLoad) {length : Nat} (h : s.Takes r)
    (small : code < 256) (lengths : ∀ body, requestCode body = some code → lengthOk body = (body.length == length))
    (reads : 3 ≤ code → anyDestination = false ∧ duringLoad = false) (head : r.body.head? = some (byte code)) :
    let t : State := { s with slot := none }
    (r.body.length ≠ length → outcome = .next (t.answer r code .refused []))
      ∧ (r.body.length = length → 3 ≤ code → r.broadcast = true → outcome = .next (t.answer r code .refused []))
      ∧ (r.body.length = length → 3 ≤ code → r.broadcast = false → s.loading = true →
        outcome = .next (t.answer r code .busy [])) := by
  have named := requestCode_of_head small head
  obtain ⟨short, elsewhere, busy⟩ := exec_common screens h named
  rw [lengths _ named] at short elsewhere busy
  refine ⟨fun wrong => short (by simpa using wrong), fun fits acts all => elsewhere (by simpa using fits) ?_ all,
    fun fits acts here loading => busy (by simpa using fits) ?_ here loading⟩
  · exact (reads acts).1
  · exact (reads acts).2

end

/-- A reply joins the reply queue of an UP trunk, and is discarded on one that is DOWN (R123, R127). -/
theorem answer_eq (s : State) (r : Request) (code : Nat) (result : Result) (data : List Byte) :
    let reply : Reply := { tag := r.tag, body := [byte code, byte result.code] ++ data }
    (s.link = .up → s.answer r code result data = { s with uplink := { s.uplink with replies := s.uplink.replies ++ [reply] } })
      ∧ (s.link = .down → s.answer r code result data = s) := by
  refine ⟨fun up => ?_, fun down => ?_⟩
  · rw [State.answer, offerReply, if_pos up]
    rfl
  · rw [State.answer, offerReply, if_neg (by simp [down])]

/-! ## The layout of what is read (Tables 11-4, 11-7) -/

theorem flagByte_eq (b : Bool) : flagByte b = byte (if b then 2 ^ 0 else 0) := by cases b <;> rfl

theorem flagBits_three_eq (a b c : Bool) :
    flagBits [a, b, c] = byte ((if a then 2 ^ 0 else 0) + (if b then 2 ^ 1 else 0) + (if c then 2 ^ 2 else 0)) := by
  cases a <;> cases b <;> cases c <;> rfl

theorem flagBits_four_eq (a b c d : Bool) :
    flagBits [a, b, c, d] =
      byte ((if a then 2 ^ 0 else 0) + (if b then 2 ^ 1 else 0) + (if c then 2 ^ 2 else 0) + (if d then 2 ^ 3 else 0)) := by
  cases a <;> cases b <;> cases c <;> cases d <;> rfl

theorem twoBytes_of_bytes {high low : Nat} (l : low < 256) : twoBytes (high * 256 + low) = [byte high, byte low] := by
  have quotient : (high * 256 + low) / 256 = high := by omega
  have rest : byte (high * 256 + low) = byte low := BitVec.eq_of_toNat_eq (by rw [byte_toNat, byte_toNat]; omega)
  rw [twoBytes, quotient, rest]

theorem number_bytes {high low : Nat} (h : high < 256) (l : low < 256) : number (byte high) (byte low) = high * 256 + low := by
  rw [number, byte_toNat_of_lt h, byte_toNat_of_lt l]

/-- A record listed at an index has the size that every record of the list has. -/
theorem length_listed {α : Type} {bytes : α → List Byte} {size i : Nat} {l : List α} (each : ∀ e, (bytes e).length = size)
    (below : i < l.length) : (((l[i]?).map bytes).getD []).length = size := by
  rw [List.getElem?_eq_getElem below]
  exact each _

theorem length_reportBytes (last : Report) : last.bytes.length = 2 := by cases last <;> rfl

/-- A record of a table has the size of the table (Table 11-7). -/
theorem length_tableRecord {table first stop size i : Nat} (range : tableRange s table = some (first, stop))
    (sized : recordSize table = some size) (above : first ≤ i) (below : i < stop) : (tableRecord s table i).length = size := by
  have cached (e : CacheEntry) : e.bytes.length = 10 := by simp [CacheEntry.bytes, length_reportBytes, twoBytes, fourBytes]
  match table, range, sized with
  | 0, range, sized | 1, range, sized =>
    obtain ⟨rfl, rfl⟩ := Prod.mk.inj (Option.some.inj range)
    exact (length_listed (size := 10) (fun _ => rfl) below).trans (Option.some.inj sized)
  | 2, range, sized | 3, range, sized | 4, range, sized | 5, range, sized | 6, range, sized | 7, range, sized =>
    exact Option.some.inj sized
  | 8, range, sized =>
    obtain ⟨rfl, rfl⟩ := Prod.mk.inj (Option.some.inj range)
    exact (length_listed (size := 10) cached below).trans (Option.some.inj sized)
  | 9, range, sized =>
    obtain ⟨rfl, rfl⟩ := Prod.mk.inj (Option.some.inj range)
    exact (length_listed (size := 5) (fun _ => rfl) below).trans (Option.some.inj sized)
  | 10, range, sized =>
    obtain ⟨rfl, rfl⟩ := Prod.mk.inj (Option.some.inj range)
    have listed : i < allConditions.length := below
    exact (length_listed (size := 6) (fun _ => rfl) listed).trans (Option.some.inj sized)

/-- The records returned to a READ_TABLE (R181). -/
theorem readTable_records {table first stop size start count : Nat} (range : tableRange s table = some (first, stop))
    (sized : recordSize table = some size) (above : first ≤ start) :
    ((List.range' start (recordsReturned count (stop - start) size)).flatMap (tableRecord s table)).length
      = recordsReturned count (stop - start) size * size := by
  have each : ∀ i ∈ List.range' start (recordsReturned count (stop - start) size), (tableRecord s table i).length = size := by
    intro i mem
    obtain ⟨low, high⟩ := List.mem_range'_1.1 mem
    exact length_tableRecord range sized (by omega) (by rw [recordsReturned] at high; omega)
  rw [List.length_flatMap, List.map_congr_left each]
  simp

/-- The decision of a READ_TABLE, by its tests in their order (R181). -/
theorem readTable_cases (table start count : Nat) (s : State) :
    (count = 0 ∨ 16 < count → readTable table start count s = refuse .refused s)
      ∧ (1 ≤ count → count ≤ 16 → 10 < table → readTable table start count s = refuse .badTable s)
      ∧ ∀ first stop size, 1 ≤ count → count ≤ 16 → tableRange s table = some (first, stop) → recordSize table = some size →
        (start < first ∨ stop ≤ start → readTable table start count s = refuse .badIndex s)
          ∧ (first ≤ start → start < stop →
            readTable table start count s =
              { state := s, result := .ok
                data :=
                  [byte table] ++ twoBytes start ++ [byte (recordsReturned count (stop - start) size)]
                    ++ (List.range' start (recordsReturned count (stop - start) size)).flatMap (tableRecord s table) }) := by
  refine ⟨fun bad => if_pos bad, fun low high none => ?_, fun first stop size low high range sized => ?_⟩
  · rw [readTable, if_neg (by omega)]
    have noRange : tableRange s table = Option.none := by
      match table, none with
      | _ + 11, _ => rfl
    rw [noRange]
  · rw [readTable, if_neg (by omega), range, sized]
    exact ⟨fun bad => if_pos bad, fun above below => if_neg (by omega)⟩

theorem execUnknownRequestName_answer (h : s.Takes r) {c : Byte} {rest : List Byte} (body : r.body = c :: rest)
    (unknown : c = 0 ∨ 23 < c.toNat) :
    exec .unknownRequestName s = .next (({ s with slot := none } : State).answer r c.toNat .refused []) := by
  have none : knownCode c.toNat = false := by
    obtain rfl | above := unknown
    · rfl
    · simp [knownCode]; omega
  have same : byte c.toNat = c := byte_of_toNat c
  refine congrArg Host.Outcome.next ?_
  simp only [h.takeable, body, List.head?_cons, none]
  rw [State.answer, same]
  rfl

theorem execReadTable_answer (h : s.Takes r) (here : r.broadcast = false) (quiet : s.loading = false) {table i1 i0 count : Nat}
    (tableSmall : table < 256) (high : i1 < 256) (low : i0 < 256) (countSmall : count < 256)
    (body : r.body = [3, byte table, byte i1, byte i0, byte count]) {v : Verdict}
    (decided : readTable table (i1 * 256 + i0) count { s with slot := none } = v) :
    exec .readTable s = .next (v.state.answer r 3 v.result v.data) := by
  refine exec_admitted (execReadTable.eq_1 s) (args := [byte table, byte i1, byte i0, byte count]) ⟨h, here, quiet⟩ body (by decide)
    (by rw [body]; rfl) ?_
  dsimp only
  rw [number_bytes high low, byte_toNat_of_lt tableSmall, byte_toNat_of_lt countSmall]
  exact decided

/-- The length of a WRITE_STAGED fits the table it names (Table 11-6). -/
theorem writeLengthOk_iff (code table i1 i0 : Byte) (rest : List Byte) :
    writeLengthOk (code :: table :: i1 :: i0 :: rest) = true ↔ ∀ size, recordSize table.toNat = some size → rest.length % size = 0 := by
  rw [writeLengthOk]
  cases recordSize table.toNat with
  | none => simp
  | some size => simp

theorem writeLengthOk_short {body : List Byte} (short : body.length < 4) : writeLengthOk body = false := by
  unfold writeLengthOk
  split
  · simp at short
    omega
  · rfl

/-- Settles O44: the common tests, then the decision of each request that reads. -/
theorem readsAnswerAndChangeNothing : Obligations.ReadsAnswerAndChangeNothing := by
  refine ⟨fun s r h => ?_, fun s => ?_, fun s r code result data => answer_eq s r code result data, by decide, by decide, by decide,
    by decide, by decide, by decide, by decide, by decide, by decide, by decide, by decide, by decide⟩
  · refine ⟨fun body => ?_, fun body => ⟨?_, rfl⟩, fun c rest body unknown => execUnknownRequestName_answer h body unknown, ?_, ?_,
      fun head short => ?_, ?_, fun codes body => ?_⟩
    · exact exec_passed (execIdentify.eq_1 s) (v := ⟨_, .ok, identity s⟩) h.takeable (by rw [body]; rfl)
        (by rw [body]; rfl) (.inr rfl) (.inr rfl) rfl
    · exact exec_passed (execReadStatus.eq_1 s) (v := ⟨_, .ok, statusData s⟩) h.takeable (by rw [body]; rfl)
        (by rw [body]; rfl) (.inr rfl) (.inr rfl) rfl
    · intro here quiet table i1 i0 count tableSmall high low countSmall body start
      obtain ⟨badCount, badTable, inTable⟩ := readTable_cases table start count { s with slot := none }
      have answered {v : Verdict} := execReadTable_answer (v := v) h here quiet tableSmall high low countSmall body
      refine ⟨fun bad => answered (badCount bad), fun least most none => answered (badTable least most none),
        fun first stop size least most range sized => ?_⟩
      obtain ⟨badIndex, reads⟩ := inTable first stop size least most range sized
      refine ⟨fun bad => answered (badIndex bad), fun above below => ⟨recordsReturned count (stop - start) size, _, ?_, rfl, rfl, ?_, ?_⟩⟩
      · have read := answered (reads above below)
        rw [twoBytes_of_bytes low] at read
        exact read
      · exact readTable_records range sized above
      · rw [readTable_records range sized above]
        have fits : recordsReturned count (stop - start) size ≤ 234 / size := by rw [recordsReturned]; omega
        have whole := Nat.div_mul_le_self 234 size
        have := Nat.mul_le_mul_right size fits
        omega
    · have lengths (code : Nat) (body : List Byte) (named : requestCode body = some code) : lengthOk body = lengthOk body := rfl
      simp only [List.forall_mem_cons]
      refine ⟨?_, ?_, ?_, ?_, ?_, ?_, ?_, ?_, ?_, ?_, ?_, ?_, ?_, ?_, ?_, ?_, ?_, ?_, ?_, ?_, ?_, nofun⟩
      · exact exec_fixed (screens_of_manage (execIdentify.eq_1 s)) h (by decide) (fun body named => by simp only [lengthOk, named]) (by decide)
      · exact exec_fixed (screens_of_manage (execReadStatus.eq_1 s)) h (by decide) (fun body named => by simp only [lengthOk, named]) (by decide)
      · exact exec_fixed (screens_of_manage (execReadTable.eq_1 s)) h (by decide) (fun body named => by simp only [lengthOk, named]) (by decide)
      · exact exec_fixed (screens_of_manage (execInsertWindow.eq_1 s)) h (by decide) (fun body named => by simp only [lengthOk, named]) (by decide)
      · exact exec_fixed (screens_of_manage (execDeleteWindow.eq_1 s)) h (by decide) (fun body named => by simp only [lengthOk, named]) (by decide)
      · exact exec_fixed (screens_of_manage (execClearEntry.eq_1 s)) h (by decide) (fun body named => by simp only [lengthOk, named]) (by decide)
      · exact exec_fixed (screens_of_manage (execCopyActive.eq_1 s)) h (by decide) (fun body named => by simp only [lengthOk, named]) (by decide)
      · exact exec_fixed (screens_of_manage (execDiscardStaged.eq_1 s)) h (by decide) (fun body named => by simp only [lengthOk, named]) (by decide)
      · exact exec_fixed (screens_of_manage (execValidate.eq_1 s)) h (by decide) (fun body named => by simp only [lengthOk, named]) (by decide)
      · exact exec_fixed (screens_of_manage (execRehearseStart.eq_1 s)) h (by decide) (fun body named => by simp only [lengthOk, named]) (by decide)
      · exact exec_fixed (screens_of_manage (execRehearseStop.eq_1 s)) h (by decide) (fun body named => by simp only [lengthOk, named]) (by decide)
      · exact exec_fixed (screens_of_manage (execCutover.eq_1 s)) h (by decide) (fun body named => by simp only [lengthOk, named]) (by decide)
      · exact exec_fixed (screens_of_manage (execAbortCutover.eq_1 s)) h (by decide) (fun body named => by simp only [lengthOk, named]) (by decide)
      · exact exec_fixed (screens_of_manage (execZoneSetLevel.eq_1 s)) h (by decide) (fun body named => by simp only [lengthOk, named]) (by decide)
      · exact exec_fixed (screens_of_manage (execZoneForce.eq_1 s)) h (by decide) (fun body named => by simp only [lengthOk, named]) (by decide)
      · exact exec_fixed (screens_of_manage (execZoneSetDamper.eq_1 s)) h (by decide) (fun body named => by simp only [lengthOk, named]) (by decide)
      · exact exec_fixed (screens_of_manage (execSetParameter.eq_1 s)) h (by decide) (fun body named => by simp only [lengthOk, named]) (by decide)
      · exact exec_fixed (screens_of_manage (execSetClosedFloor.eq_1 s)) h (by decide) (fun body named => by simp only [lengthOk, named]) (by decide)
      · exact exec_fixed (screens_of_manage (execFlushReadings.eq_1 s)) h (by decide) (fun body named => by simp only [lengthOk, named]) (by decide)
      · exact exec_fixed (screens_of_manage (execClearOccurrences.eq_1 s)) h (by decide) (fun body named => by simp only [lengthOk, named]) (by decide)
      · exact exec_fixed (execRestart_screens s r) h (by decide) (fun body named => by simp only [lengthOk, named]) (by decide)
    · have short : lengthOk r.body = false := by
        rw [lengthOk, requestCode_of_head (by decide) head]
        exact writeLengthOk_short short
      exact (exec_common (screens_of_manage (execWriteStaged.eq_1 s)) h (requestCode_of_head (by decide) head)).1 short
    · intro table i1 i0 rest body fits
      have named : requestCode r.body = some 4 := by rw [body]; rfl
      have length : lengthOk r.body = true ↔ fits := by
        rw [lengthOk, named, body]
        exact writeLengthOk_iff 4 table i1 i0 rest
      obtain ⟨bad, elsewhere, busy⟩ := exec_common (screens_of_manage (execWriteStaged.eq_1 s)) h named
      exact ⟨fun misfits => bad (by rw [← Bool.not_eq_true, length]; exact misfits), fun good => elsewhere (length.2 good) rfl,
        fun good => busy (length.2 good) rfl⟩
    · have named : requestCode r.body = some 21 := by rw [body]; rfl
      have long : lengthOk r.body = true := by simp only [lengthOk, named]
      obtain ⟨-, elsewhere, busy⟩ := exec_common (screens_of_manage (execClearPending.eq_1 s)) h named
      exact ⟨elsewhere long rfl, busy long rfl⟩
  · intro two bit flag signed four check segment zoneState
    have flags (b : Bool) : flagByte b = flag b := flagByte_eq b
    have signs (n : Int) : signedBytes n = signed n := signedBytes_eq n
    have segments (n : Nat) : segmentStatus s n = segment n := by
      simp only [segmentStatus, flags]
      rfl
    have states (v : ZoneState) (q : ZoneRecord) : v.bytes (v.spreadAlarm q) (v.setpoint q) = zoneState v q := by
      simp only [ZoneState.bytes, temperatureBytes, damperBytes, flagBits_four_eq, signs]
      rfl
    have checks : checkCode s.result.check = check := by
      simp only [checkCode, check]
      cases s.result.check <;> rfl
    refine ⟨?_, fun i w listed => ?_, fun i w listed => ?_, fun z => ⟨rfl, rfl⟩, fun z => ⟨states .., states ..⟩, fun i => ?_,
      fun i e listed => ?_, fun i e listed => ?_, fun c => ?_, rfl⟩
    · have four : segmentNumbers.flatMap (segmentStatus s) = segment 1 ++ segment 2 ++ segment 3 ++ segment 4 := by
        simp [segmentNumbers, List.range', segments]
      simp only [statusData, flags, checks, four, ← List.append_assoc]
      rfl
    · simp only [tableRecord, listed]
      rfl
    · simp only [tableRecord, listed]
      rfl
    · have entry (table : Vector ClassifierEntry 32) : nth table .cleared (i.val + 1) = table[i] := by simp [nth]
      exact ⟨congrArg ClassifierEntry.bytes (entry _), congrArg ClassifierEntry.bytes (entry _)⟩
    · simp only [tableRecord, listed, Option.map_some, Option.getD_some, CacheEntry.bytes, flags]
      cases e.last with
      | presence => rfl
      | absence => rfl
      | reading n => simp only [Report.bytes, signs]; rfl
    · simp only [tableRecord, listed, Option.map_some, Option.getD_some, PresenceEntry.bytes, flags]
      rfl
    · have listed : allConditions[c.code]? = some c := by cases c <;> rfl
      have record : tableRecord s 10 c.code = ((allConditions[c.code]?).map fun c => (s.notice c).bytes c (s.enabled c)).getD [] := rfl
      rw [record, listed]
      simp only [Option.map_some, Option.getD_some, NoticeState.bytes, flagBits_three_eq]
      rfl

end
end Sys2Proof.Machine
end

/-! # Requests that replace, validate and rehearse the staged bank (chapter 8) -/

section
namespace Sys2Proof.Machine

section
variable {s t u : State} {r : Request}

/-! ## The staged bank replaced (R131, R132, R143) -/

/-- What an accepted change of the staged bank leaves, before its reply. -/
theorem restaged_effect (h : s.Law) {next : StagingState} (free : next ≠ .cutting) (ends : next ≠ .rehearsing) (bank : Bank) :
    let u : State := { leaveTo next { s with slot := none } with staged := bank, result := .cleared }
    u.staged = bank ∧ u.staging = next ∧ u.result = .cleared ∧ u.shadow = Vector.replicate 255 .idle ∧ u.engine = s.engineLeft
      ∧ (s.staging ≠ .rehearsing → u.sweep = s.sweep)
      ∧ (s.staging = .rehearsing → ({ u with sweep := s.sweep } : State).SweepGoesOn u)
      ∧ u =
        { s with
          slot := none, staged := u.staged, staging := u.staging, result := u.result, shadow := u.shadow, engine := u.engine
          sweep := u.sweep } := by
  have frame := leaveTo_frame free { s with slot := none }
  have staging : (leaveTo next { s with slot := none }).staging = next := by rw [frame]; rfl
  have shadow : (leaveTo next { s with slot := none }).shadow = Vector.replicate 255 .idle := by
    rw [frame]
    exact h.left_shadow next
  have engine : (leaveTo next { s with slot := none }).engine = s.engineLeft := by rw [frame]; rfl
  refine ⟨rfl, staging, rfl, shadow, engine, fun still => ?_, fun rehearses => ?_, ?_⟩
  · exact leaveTo_sweep_of_not_rehearsing next (s := { s with slot := none }) still
  · exact leaveTo_goesOn (s := { s with slot := none }) rehearses free ends staging ((congrArg State.active frame :))
      ((congrArg State.zones frame :)) rfl
  · generalize leaveTo next { s with slot := none } = v at frame
    dsimp only
    rw [frame]
    rfl

/-- Settles O46: both replace the staged bank and leave rehearsal. -/
theorem copyAndDiscardReplaceTheStagedBank : Obligations.CopyAndDiscardReplaceTheStagedBank := by
  intro s r h admits replaced
  have active : (leaveTo .editing { s with slot := none }).active = s.active := leaveTo_active ..
  have outcome {command : Instr} {code : Nat} {next : StagingState} {bank : State → Bank} {b : Bank} (small : code < 256)
      (runs : exec command s = manage code false false (fun _ t => replaceStaged next bank t) s) (body : r.body = [byte code])
      (length : lengthOk [byte code] = true) (free : next ≠ .cutting) (ends : next ≠ .rehearsing)
      (taken : bank (leaveTo next { s with slot := none }) = b) : replaced command code b next := by
    refine ⟨fun still => ?_, fun cutting => ?_⟩
    · have decided : replaceStaged next bank { s with slot := none } =
          accept false { leaveTo next { s with slot := none } with staged := b, result := .cleared } := by
        rw [replaceStaged, if_neg still, ← taken]
      exact ⟨_, _, exec_admitted runs admits body small (body ▸ length) decided, rfl, restaged_effect h free ends b⟩
    · have decided : replaceStaged next bank { s with slot := none } = refuse .busy { s with slot := none } := if_pos cutting
      exact exec_admitted runs admits body small (body ▸ length) decided
  exact ⟨fun body => outcome (by decide) rfl body rfl (by simp) (by simp) active,
    fun body => outcome (by decide) rfl body rfl (by simp) (by simp) rfl⟩

/-! ## VALIDATE (R133, R135, R137) -/

theorem validate_of_failed (early : s.staging = .empty ∨ s.staging = .editing) {c : Check} {i : Nat}
    (failed : validationOf s.active s.staged s.maint = { outcome := .failed, check := some c, index := some i, reliance := false }) :
    validate s =
      { state :=
          report .stageRejected none
            { s with
              staging := .editing
              result := { outcome := .failed, check := some c, index := some i, reliance := false } }
        result := .invalid
        data := [byte c.code, byte (i / 256), byte i] } := by
  have free : s.staging ≠ .cutting := by rintro cutting; simp [cutting] at early
  have past : ¬(s.staging ≠ .empty ∧ s.staging ≠ .editing) := by tauto
  rw [validate, if_neg free, if_neg past, failed]
  rfl

theorem validate_of_passed (early : s.staging = .empty ∨ s.staging = .editing) {v : ValidationResult}
    (valid : validationOf s.active s.staged s.maint = v) (passed : v.outcome = .passed) :
    validate s = accept false { s with staging := .validated, result := v } := by
  have free : s.staging ≠ .cutting := by rintro cutting; simp [cutting] at early
  have past : ¬(s.staging ≠ .empty ∧ s.staging ≠ .editing) := by tauto
  rw [validate, if_neg free, if_neg past, valid]
  exact if_neg (by simp [passed])

/-- Settles O47: the first failing check, then the pin test. -/
theorem validateDecides : Obligations.ValidateDecides := by
  refine ⟨fun s r admits body => ?_, fun s r admits early body => ?_⟩
  · intro refused
    have answered {v : Verdict} (decided : validate { s with slot := none } = v) :=
      exec_admitted (execValidate.eq_1 s) admits body (by decide) (by rw [body]; rfl) decided
    refine ⟨fun cutting => answered (if_pos cutting), fun past => answered (v := refuse .badState _) ?_⟩
    obtain state | state | state := past
    all_goals simp [validate, state]
  · intro rejected passed
    have answered {v : Verdict} (decided : validate { s with slot := none } = v) :=
      exec_admitted (execValidate.eq_1 s) admits body (by decide) (by rw [body]; rfl) decided
    refine ⟨fun c i fails => answered (validate_of_failed (s := { s with slot := none }) early ?_),
      fun sound pins => answered (validate_of_passed (s := { s with slot := none }) early (v := ⟨.passed, none, none, false⟩) ?_ rfl),
      fun z sound pins => ?_⟩
    · simp only [validationOf, fails]
    · simp only [validationOf, sound, pins]
    · split
      · next maint =>
        refine answered (validate_of_passed (s := { s with slot := none }) early (v := ⟨.passed, none, some z, true⟩) ?_ rfl)
        simp only [validationOf, sound, pins, if_pos maint]
      · next maint =>
        refine answered (validate_of_failed (s := { s with slot := none }) early ?_)
        simp only [validationOf, sound, pins, if_neg maint]

/-! ## Rehearsal (R138, R139, R143) -/

/-- A level carried into another record, for a level of at most 1000 (R62). -/
theorem ZoneRecord.bound_eq_max {q : ZoneRecord} (record : q.InRange) {l : Nat} (high : l ≤ 1000) :
    q.bound l = if l = 0 then 0 else max q.minOn l := by
  have := record.minOn_le
  rw [ZoneRecord.bound]
  split
  · rfl
  · omega

theorem ZoneState.LevelLaw.preGrace_le {v : ZoneState} {q : ZoneRecord} (h : v.LevelLaw q) : v.preGrace ≤ 1000 := by
  obtain ⟨-, -, preGrace, -⟩ := h
  by_cases dark : v.preGrace = 0
  · omega
  · exact (preGrace dark).2

/-- The shadow records a start of rehearsal writes (R139). -/
theorem seeded_shadowZone (s : State) (z : Nat) : nth (mapNumbered s.shadow fun z _ => s.seed z) ZoneState.idle z = s.seed z := by
  refine nth_mapNumbered_of_fixed s.shadow (fun z _ => s.seed z) ZoneState.idle z fun outside => if_neg fun present => ?_
  have := Bank.isZone_of_present present
  omega

/-- Settles O50: the shadow table is seeded zone by zone, and emptied by the end of rehearsal. -/
theorem rehearsalStartsAndStops : Obligations.RehearsalStartsAndStops := by
  intro s r h admits refused
  have starts (body : r.body = [11]) {v : Verdict} (decided : rehearseStart { s with slot := none } = v) :=
    exec_admitted (execRehearseStart.eq_1 s) admits body (by decide) (by rw [body]; rfl) decided
  have stops (body : r.body = [12]) {v : Verdict} (decided : rehearseStop { s with slot := none } = v) :=
    exec_admitted (execRehearseStop.eq_1 s) admits body (by decide) (by rw [body]; rfl) decided
  refine ⟨fun validated body => ?_, fun rehearses body => ?_, fun body => ⟨fun cutting => ?_, fun free other => ?_⟩,
    fun body => ⟨fun cutting => ?_, fun free other => ?_⟩⟩
  · have decided : rehearseStart { s with slot := none } = accept false _ :=
      (if_neg (by simp [validated])).trans (if_neg (by simp [validated]))
    refine ⟨_, starts body decided, fun z absent => ?_, fun z present isPinned => ?_, fun z present free => ?_, rfl⟩
    · exact (seeded_shadowZone _ z).trans (if_neg fun present => Bool.false_ne_true (absent.symm.trans present))
    · refine (seeded_shadowZone _ z).trans ((if_pos present).trans ((if_pos isPinned).trans ?_))
      have record := h.stagedRecord_inRange z
      have law := (h.zone_sound z).level
      rw [← ZoneRecord.bound_eq_max record law.level_le, ← ZoneRecord.bound_eq_max record law.preGrace_le]
      rfl
    · exact (seeded_shadowZone _ z).trans ((if_pos present).trans (if_neg fun held => Bool.false_ne_true (free.symm.trans held)))
  · have decided : rehearseStop { s with slot := none } = accept false (leaveTo .validated { s with slot := none }) :=
      (if_neg (by simp [rehearses])).trans (if_neg (by simp [rehearses]))
    have frame := leaveTo_frame (by simp : StagingState.validated ≠ .cutting) { s with slot := none }
    have cancelled : s.engineLeft = s.engine.runCancelled := if_pos rehearses
    have staging : (leaveTo .validated { s with slot := none }).staging = .validated := by rw [frame]; rfl
    refine ⟨_, stops body decided, staging, ?_, ?_, ?_, ?_⟩
    · rw [frame]
      exact h.left_shadow .validated
    · rw [← cancelled, frame]
      rfl
    · exact leaveTo_goesOn (s := { s with slot := none }) rehearses (by simp) (by simp) staging ((congrArg State.active frame :))
        ((congrArg State.zones frame :)) rfl
    · rw [frame]
      rfl
  · exact starts body (if_pos cutting)
  · exact starts body ((if_neg free).trans (if_pos other))
  · exact stops body (if_pos cutting)
  · exact stops body ((if_neg free).trans (if_pos other))

end
end Sys2Proof.Machine
end

/-! # Edits of the staged bank (R22, R37, R58, R131) -/

section
namespace Sys2Proof.Machine

section
variable {s t u : State} {r : Request}

/-! ## Records of a request, and where they are stored -/

/-- The records of a request are the byte strings it was put together from. -/
theorem records_flatten {size : Nat} {received : List (List Byte)} (sized : ∀ b ∈ received, b.length = size) :
    records size received.length received.flatten = received := by
  induction received with
  | nil => rfl
  | cons b bs ih =>
    obtain ⟨own, rest⟩ := List.forall_mem_cons.1 sized
    rw [List.length_cons, records, List.flatten_cons, ← own, List.take_left, List.drop_left, own, ih rest]

theorem length_flatten_of_sized {size : Nat} {received : List (List Byte)} (sized : ∀ b ∈ received, b.length = size) :
    received.flatten.length = received.length * size := by
  rw [List.length_flatten, List.map_congr_left sized]
  simp

/-- Records that store one by one store together. -/
theorem storeAll_of_forall₂ {α : Type} {store : List Byte → Option (α × Bool)} {size : Nat} {received : List (List Byte)}
    {stored : List (α × Bool)} (each : List.Forall₂ (fun b w => b.length = size ∧ store b = some w) received stored) :
    (∀ b ∈ received, b.length = size) ∧ received.length = stored.length
      ∧ storeAll store received = some (stored.map fun w => w.1, stored.any fun w => w.2) := by
  induction each with
  | nil => exact ⟨nofun, rfl, rfl⟩
  | cons own _ ih =>
    obtain ⟨length, kept⟩ := own
    obtain ⟨sized, counted, all⟩ := ih
    refine ⟨List.forall_mem_cons.2 ⟨length, sized⟩, by simp [counted], ?_⟩
    rw [storeAll, kept, all]
    rfl

/-- What a table holds after records are stored from number `i` on. -/
theorem nth_writeRecords {α : Type} {n : Nat} (d : α) (rs : List α) (table : Vector α n) {i z : Nat} (first : 1 ≤ i) (high : z ≤ n) :
    nth (writeRecords table i rs) d z = if i ≤ z then (rs[z - i]?).getD (nth table d z) else nth table d z := by
  induction rs generalizing table i with
  | nil => simp [writeRecords]
  | cons a rs ih =>
    rw [writeRecords, ih (put table i a) (by omega), nth_put]
    obtain below | rfl | above := Nat.lt_trichotomy z i
    · rw [if_neg (by omega), if_neg (by omega), if_neg (by omega)]
    · simp [first, high]
    · have next : z - i = z - (i + 1) + 1 := by omega
      rw [if_pos (by omega), if_neg (by omega), if_pos (by omega), next, List.getElem?_cons_succ]

/-! ## Edits of the staged list -/

theorem editRefusal_of_editable (editable : s.staging ≠ .cutting ∧ s.staging ≠ .retained) : editRefusal s.staging = none := by
  obtain ⟨free, kept⟩ := editable
  cases state : s.staging <;> simp_all [editRefusal]

theorem edit_eq (change : Bank → Bank) (s : State) :
    edit change s = { leaveTo .editing s with staged := change s.staged, result := .cleared } := by
  rw [← leaveTo_staged .editing s]
  rfl

/-- Outside CUTTING and RETAINED a WRITE_STAGED goes on to its own tests. -/
theorem writeStaged_refused (table i : Nat) (rest : List Byte) (s : State) :
    let v := writeStaged table i rest s
    let n := rest.length / (if table = 1 then 10 else if table = 3 then 18 else 11)
    (s.staging = .cutting → v = refuse .busy s) ∧ (s.staging = .retained → v = refuse .badState s)
      ∧ (s.staging ≠ .cutting ∧ s.staging ≠ .retained →
        (table ≠ 1 → table ≠ 3 ∧ table ≠ 7 → v = refuse .badTable s)
        ∧ (table = 1 ∨ table = 3 ∨ table = 7 →
          (n = 0 ∨ 16 < n → v = refuse .refused s)
          ∧ (1 ≤ n → n ≤ 16 →
            (table = 1 → s.staged.windows.length < i → v = refuse .badIndex s)
            ∧ (table = 1 → i ≤ s.staged.windows.length → 512 < i + n → v = refuse .full s)
            ∧ (table = 3 → i = 0 ∨ 255 < i + n - 1 → v = refuse .badIndex s)
            ∧ (table = 7 → 31 < i + n - 1 → v = refuse .badIndex s)))) := by
  refine ⟨fun cutting => ?_, fun retained => ?_, fun editable => ⟨fun other others => ?_, fun edits => ?_⟩⟩
  · simp only [writeStaged, cutting, editRefusal]
  · simp only [writeStaged, retained, editRefusal]
  · simp only [writeStaged, editRefusal_of_editable editable]
    exact if_pos ⟨other, others⟩
  · have known : ¬(table ≠ 1 ∧ table ≠ 3 ∧ table ≠ 7) := by tauto
    have size : (recordSize table).getD 1 = if table = 1 then 10 else if table = 3 then 18 else 11 := by
      obtain rfl | rfl | rfl := edits <;> rfl
    simp only [writeStaged, editRefusal_of_editable editable, if_neg known, size]
    refine ⟨fun bad => if_pos bad, fun least most => ?_⟩
    rw [if_neg (by omega)]
    refine ⟨fun windows outside => ?_, fun windows inside full => ?_, fun zones outside => ?_, fun entries outside => ?_⟩
    · rw [if_pos windows, if_pos outside]
    · rw [if_pos windows, if_neg (by omega), if_pos full]
    · rw [if_neg (by omega), if_pos zones, if_pos outside]
    · rw [if_neg (by omega), if_neg (by omega), if_pos outside]

theorem insertWindow_refused (table i : Nat) (rest : List Byte) (s : State) :
    let v := insertWindow table i rest s
    (s.staging = .cutting → v = refuse .busy s) ∧ (s.staging = .retained → v = refuse .badState s)
      ∧ (s.staging ≠ .cutting ∧ s.staging ≠ .retained →
        (table ≠ 1 → v = refuse .badTable s) ∧ (table = 1 → s.staged.windows.length < i → v = refuse .badIndex s)
          ∧ (table = 1 → i ≤ s.staged.windows.length → s.staged.windows.length = 512 → v = refuse .full s)) := by
  refine ⟨fun cutting => ?_, fun retained => ?_, fun editable => ?_⟩
  · simp only [insertWindow, cutting, editRefusal]
  · simp only [insertWindow, retained, editRefusal]
  · simp only [insertWindow, editRefusal_of_editable editable]
    refine ⟨fun other => if_pos other, fun windows outside => ?_, fun windows inside full => ?_⟩
    · rw [if_neg (not_not.2 windows), if_pos outside]
    · rw [if_neg (not_not.2 windows), if_neg (by omega), if_pos (by omega)]

theorem deleteWindow_refused (table i : Nat) (s : State) :
    let v := deleteWindow table i s
    (s.staging = .cutting → v = refuse .busy s) ∧ (s.staging = .retained → v = refuse .badState s)
      ∧ (s.staging ≠ .cutting ∧ s.staging ≠ .retained →
        (table ≠ 1 → v = refuse .badTable s) ∧ (table = 1 → s.staged.windows.length ≤ i → v = refuse .badIndex s)) := by
  refine ⟨fun cutting => ?_, fun retained => ?_, fun editable => ?_⟩
  · simp only [deleteWindow, cutting, editRefusal]
  · simp only [deleteWindow, retained, editRefusal]
  · simp only [deleteWindow, editRefusal_of_editable editable]
    refine ⟨fun other => if_pos other, fun windows outside => ?_⟩
    rw [if_neg (not_not.2 windows), deleteAt, if_pos outside]

theorem clearEntry_refused (table i : Nat) (s : State) :
    let v := clearEntry table i s
    (s.staging = .cutting → v = refuse .busy s) ∧ (s.staging = .retained → v = refuse .badState s)
      ∧ (s.staging ≠ .cutting ∧ s.staging ≠ .retained →
        (table ≠ 1 → table ≠ 3 ∧ table ≠ 7 → v = refuse .badTable s)
          ∧ (table = 1 ∧ s.staged.windows.length ≤ i ∨ table = 3 ∧ (i = 0 ∨ 255 < i) ∨ table = 7 ∧ 31 < i →
            v = refuse .badIndex s)) := by
  refine ⟨fun cutting => ?_, fun retained => ?_, fun editable => ?_⟩
  · simp only [clearEntry, cutting, editRefusal]
  · simp only [clearEntry, retained, editRefusal]
  · simp only [clearEntry, editRefusal_of_editable editable]
    refine ⟨fun other others => ?_, ?_⟩
    · rw [if_neg other, if_neg others.1, if_neg others.2]
    · rintro (⟨windows, outside⟩ | ⟨zones, outside⟩ | ⟨entries, outside⟩)
      · rw [if_pos windows, deleteAt, if_pos outside]
      · rw [if_neg (by omega), if_pos zones, if_pos outside]
      · rw [if_neg (by omega), if_neg (by omega), if_pos entries, if_pos outside]

/-! ## Edits that are accepted -/

section
variable (editable : s.staging ≠ .cutting ∧ s.staging ≠ .retained)
include editable

theorem writeStaged_windows {received : List (List Byte)} {ws : List (Window × Bool)} {i : Nat}
    (each : List.Forall₂ (fun b w => b.length = 10 ∧ storeWindow b = some w) received ws) (some' : 1 ≤ ws.length) (few : ws.length ≤ 16)
    (inside : i ≤ s.staged.windows.length) (room : i + ws.length ≤ 512) :
    writeStaged 1 i received.flatten s =
      accept (ws.any fun w => w.2)
        { leaveTo .editing s with
          staged :=
            { s.staged with
              windows := s.staged.windows.take i ++ ws.map (fun w => w.1) ++ s.staged.windows.drop (i + ws.length) }
          result := .cleared } := by
  obtain ⟨sized, counted, all⟩ := storeAll_of_forall₂ each
  have n : received.flatten.length / 10 = ws.length := by rw [length_flatten_of_sized sized]; omega
  have read : records 10 ws.length received.flatten = received := by rw [← counted, records_flatten sized]
  simp only [writeStaged, editRefusal_of_editable editable, recordSize, Option.getD_some, n, read, all, edit_eq, writeWindows,
    List.length_map]
  rw [if_neg (by simp), if_neg (by omega), if_pos trivial, if_neg (by omega), if_neg (by omega)]

theorem writeStaged_zones {received : List (List Byte)} {rs : List (ZoneRecord × Bool)} {i : Nat}
    (each : List.Forall₂ (fun b w => b.length = 18 ∧ storeZone b = some w) received rs) (some' : 1 ≤ rs.length) (few : rs.length ≤ 16)
    (low : 1 ≤ i) (high : i + rs.length ≤ 256) :
    writeStaged 3 i received.flatten s =
      accept (rs.any fun w => w.2)
        { leaveTo .editing s with
          staged := { s.staged with zones := writeRecords s.staged.zones i (rs.map fun w => w.1) }
          result := .cleared } := by
  obtain ⟨sized, counted, all⟩ := storeAll_of_forall₂ each
  have n : received.flatten.length / 18 = rs.length := by rw [length_flatten_of_sized sized]; omega
  have read : records 18 rs.length received.flatten = received := by rw [← counted, records_flatten sized]
  simp only [writeStaged, editRefusal_of_editable editable, recordSize, Option.getD_some, n, read, all, edit_eq]
  rw [if_neg (by simp), if_neg (by omega), if_neg (by simp), if_pos trivial, if_neg (by omega)]

theorem writeStaged_entries {received : List (List Byte)} {es : List (ClassifierEntry × Bool)} {i : Nat}
    (each : List.Forall₂ (fun b w => b.length = 11 ∧ storeEntry b = some w) received es) (some' : 1 ≤ es.length) (few : es.length ≤ 16)
    (high : i + es.length ≤ 32) :
    writeStaged 7 i received.flatten s =
      accept (es.any fun w => w.2)
        { leaveTo .editing s with
          staged := { s.staged with classifier := writeRecords s.staged.classifier (i + 1) (es.map fun w => w.1) }
          result := .cleared } := by
  obtain ⟨sized, counted, all⟩ := storeAll_of_forall₂ each
  have n : received.flatten.length / 11 = es.length := by rw [length_flatten_of_sized sized]; omega
  have read : records 11 es.length received.flatten = received := by rw [← counted, records_flatten sized]
  simp only [writeStaged, editRefusal_of_editable editable, recordSize, Option.getD_some, n, read, all, edit_eq]
  rw [if_neg (by simp), if_neg (by omega), if_neg (by simp), if_neg (by simp), if_neg (by omega)]

theorem insertWindow_accepted {received : List Byte} {w : Window} {clamped : Bool} {i : Nat}
    (kept : storeWindow received = some (w, clamped)) (inside : i ≤ s.staged.windows.length) (room : s.staged.windows.length < 512) :
    insertWindow 1 i received s =
      accept clamped
        { leaveTo .editing s with
          staged := { s.staged with windows := s.staged.windows.take i ++ [w] ++ s.staged.windows.drop i }
          result := .cleared } := by
  simp only [insertWindow, editRefusal_of_editable editable, kept, edit_eq, insertAt]
  rw [if_neg (by simp), if_neg (by omega), if_neg (by omega), List.append_assoc]
  rfl

end

theorem deleteAt_accepted {i : Nat} (inside : i < s.staged.windows.length) :
    deleteAt i s =
      accept false
        { leaveTo .editing s with
          staged := { s.staged with windows := s.staged.windows.take i ++ s.staged.windows.drop (i + 1) }
          result := .cleared } := by
  rw [deleteAt, if_neg (by omega), edit_eq, List.eraseIdx_eq_take_drop_succ]

theorem clearEntry_accepted (editable : s.staging ≠ .cutting ∧ s.staging ≠ .retained) (i : Nat) :
    clearEntry 1 i s = deleteAt i s
      ∧ (1 ≤ i → i ≤ 255 →
        clearEntry 3 i s =
          accept false
            { leaveTo .editing s with
              staged := { s.staged with zones := put s.staged.zones i .cleared }, result := .cleared })
      ∧ (i ≤ 31 →
        clearEntry 7 i s =
          accept false
            { leaveTo .editing s with
              staged := { s.staged with classifier := put s.staged.classifier (i + 1) .cleared }, result := .cleared }) := by
  simp only [clearEntry, editRefusal_of_editable editable, edit_eq]
  refine ⟨if_pos trivial, fun low high => ?_, fun high => ?_⟩
  · rw [if_neg (by simp), if_pos trivial, if_neg (by omega)]
  · rw [if_neg (by simp), if_neg (by simp), if_pos trivial, if_neg (by omega)]

/-! ## The requests that edit -/

section
variable (admits : s.Admits r)
include admits

theorem execWriteStaged_answer {table i1 i0 : Byte} {rest : List Byte} (body : r.body = [4, table, i1, i0] ++ rest)
    (fits : ∀ size, recordSize table.toNat = some size → rest.length % size = 0) {v : Verdict}
    (decided : writeStaged table.toNat (number i1 i0) rest { s with slot := none } = v) :
    exec .writeStaged s = .next (v.state.answer r 4 v.result v.data) := by
  refine exec_admitted (execWriteStaged.eq_1 s) (args := table :: i1 :: i0 :: rest) admits body (by decide) ?_ decided
  rw [body]
  exact (writeLengthOk_iff 4 table i1 i0 rest).2 fits

theorem execInsertWindow_answer {table i1 i0 : Byte} {rest : List Byte} (body : r.body = [5, table, i1, i0] ++ rest)
    (length : rest.length = 10) {v : Verdict} (decided : insertWindow table.toNat (number i1 i0) rest { s with slot := none } = v) :
    exec .insertWindow s = .next (v.state.answer r 5 v.result v.data) := by
  refine exec_admitted (execInsertWindow.eq_1 s) (args := table :: i1 :: i0 :: rest) admits body (by decide) ?_ decided
  rw [body]
  simp [lengthOk, requestCode, length]

theorem execDeleteWindow_answer {table i1 i0 : Byte} (body : r.body = [6, table, i1, i0]) {v : Verdict}
    (decided : deleteWindow table.toNat (number i1 i0) { s with slot := none } = v) :
    exec .deleteWindow s = .next (v.state.answer r 6 v.result v.data) :=
  exec_admitted (execDeleteWindow.eq_1 s) (args := [table, i1, i0]) admits body (by decide) (by rw [body]; rfl) decided

theorem execClearEntry_answer {table i1 i0 : Byte} (body : r.body = [7, table, i1, i0]) {v : Verdict}
    (decided : clearEntry table.toNat (number i1 i0) { s with slot := none } = v) :
    exec .clearEntry s = .next (v.state.answer r 7 v.result v.data) :=
  exec_admitted (execClearEntry.eq_1 s) (args := [table, i1, i0]) admits body (by decide) (by rw [body]; rfl) decided

end

/-- Whole records of a table's size have the length Table 11-6 gives. -/
theorem fits_of_forall₂ {α : Type} {store : List Byte → Option (α × Bool)} {size table : Nat} {received : List (List Byte)}
    {stored : List (α × Bool)} (each : List.Forall₂ (fun b w => b.length = size ∧ store b = some w) received stored)
    (sized : recordSize table = some size) (n : Nat) (named : recordSize table = some n) : received.flatten.length % n = 0 := by
  obtain ⟨lengths, -⟩ := storeAll_of_forall₂ each
  obtain rfl := Option.some.inj (sized.symm.trans named)
  rw [length_flatten_of_sized lengths, Nat.mul_mod_left]

/-- Settles O45: each request by its tests in their order, and each accepted edit by what it writes. -/
theorem editsChangeTheStagedBank : Obligations.EditsChangeTheStagedBank := by
  intro s r h admits refused edited count to2 stored editable
  refine ⟨fun i1 i0 c command body => ?_, fun editable => ⟨?_, ?_, ?_, ?_, ?_, ?_, ?_, ?_⟩⟩
  · intro i number' n
    obtain ⟨table, rest, rfl, fits⟩ | ⟨table, rest, rfl, length⟩ | ⟨table, rfl⟩ | ⟨table, rfl⟩ := command
    · have answered {v : Verdict} := execWriteStaged_answer (v := v) admits body fits
      obtain ⟨busy, state, tests⟩ := writeStaged_refused table.toNat (number i1 i0) rest { s with slot := none }
      refine ⟨fun cutting => answered (busy cutting), fun retained => answered (state retained), fun may => ?_⟩
      obtain ⟨other, own⟩ := tests may
      refine ⟨fun notOne others => answered (other notOne (others.resolve_right (by simp))), fun _ edits => ?_, nofun, nofun, nofun, nofun⟩
      obtain ⟨bad, good⟩ := own edits
      refine ⟨fun k => answered (bad k), fun least most => ?_⟩
      obtain ⟨windows, full, zones, entries⟩ := good least most
      exact ⟨fun a b => answered (windows a b), fun a b c => answered (full a b c), fun a b => answered (zones a b),
        fun a b => answered (entries a b)⟩
    · have answered {v : Verdict} := execInsertWindow_answer (v := v) admits body length
      obtain ⟨busy, state, tests⟩ := insertWindow_refused table.toNat (number i1 i0) rest { s with slot := none }
      refine ⟨fun cutting => answered (busy cutting), fun retained => answered (state retained), fun may => ?_⟩
      obtain ⟨other, outside, full⟩ := tests may
      exact ⟨fun notOne _ => answered (other notOne), nofun, fun _ one above => answered (outside one above),
        fun _ one inside all => answered (full one inside all), nofun, nofun⟩
    · have answered {v : Verdict} := execDeleteWindow_answer (v := v) admits body
      obtain ⟨busy, state, tests⟩ := deleteWindow_refused table.toNat (number i1 i0) { s with slot := none }
      refine ⟨fun cutting => answered (busy cutting), fun retained => answered (state retained), fun may => ?_⟩
      obtain ⟨other, outside⟩ := tests may
      exact ⟨fun notOne _ => answered (other notOne), nofun, nofun, nofun, fun _ one above => answered (outside one above), nofun⟩
    · have answered {v : Verdict} := execClearEntry_answer (v := v) admits body
      obtain ⟨busy, state, tests⟩ := clearEntry_refused table.toNat (number i1 i0) { s with slot := none }
      refine ⟨fun cutting => answered (busy cutting), fun retained => answered (state retained), fun may => ?_⟩
      obtain ⟨other, outside⟩ := tests may
      exact ⟨fun notOne others => answered (other notOne (others.resolve_right (by simp))), nofun, nofun, nofun, nofun,
        fun _ beyond => answered (outside beyond)⟩
  all_goals
    have accepted {command : Instr} {code : Nat} {clamped : Bool} {bank : Bank}
        (runs : exec command s = .next
          (({ leaveTo .editing { s with slot := none } with staged := bank, result := .cleared } : State).answer r code
            (if clamped then .clamped else .ok) [])) : edited command code clamped bank :=
      ⟨_, _, runs, rfl, restaged_effect h (by simp) (by simp) bank⟩
    have small : s.staged.windows.length ≤ 512 := h.staged_stored.1
  · intro received ws i each least most inside room body
    have place : number (byte (i / 256)) (byte i) = i := number_twoBytes (by omega)
    have decided := (congrArg (writeStaged 1 · received.flatten { s with slot := none }) place).trans
      (writeStaged_windows (s := { s with slot := none }) editable each least most inside room)
    exact accepted (execWriteStaged_answer admits body (fits_of_forall₂ each rfl) decided)
  · intro received rs i each least most low high body
    have place : number (byte (i / 256)) (byte i) = i := number_twoBytes (by omega)
    have decided := (congrArg (writeStaged 3 · received.flatten { s with slot := none }) place).trans
      (writeStaged_zones (s := { s with slot := none }) editable each least most low high)
    refine ⟨_, accepted (execWriteStaged_answer admits body (fits_of_forall₂ each rfl) decided), rfl, rfl, fun z from' to' => ?_⟩
    have written := nth_writeRecords .cleared (rs.map fun w => w.1) s.staged.zones low to'
    rw [List.getElem?_map] at written
    exact written
  · intro received es i each least most high body
    have place : number (byte (i / 256)) (byte i) = i := number_twoBytes (by omega)
    have decided := (congrArg (writeStaged 7 · received.flatten { s with slot := none }) place).trans
      (writeStaged_entries (s := { s with slot := none }) editable each least most high)
    refine ⟨_, accepted (execWriteStaged_answer admits body (fits_of_forall₂ each rfl) decided), rfl, rfl, fun j => ?_⟩
    have written := nth_writeRecords .cleared (es.map fun w => w.1) s.staged.classifier (i := i + 1) (z := j.val + 1) (by omega) (by omega)
    have entry (table : Vector ClassifierEntry 32) : nth table .cleared (j.val + 1) = table[j] := by simp [nth]
    rw [List.getElem?_map, entry, entry, Nat.add_sub_add_right] at written
    simpa using written
  · intro received w clamped i length kept inside room body
    have place : number (byte (i / 256)) (byte i) = i := number_twoBytes (by omega)
    have decided := (congrArg (insertWindow 1 · received { s with slot := none }) place).trans
      (insertWindow_accepted (s := { s with slot := none }) editable kept inside room)
    exact accepted (execInsertWindow_answer admits body length decided)
  · intro i inside body
    have place : number (byte (i / 256)) (byte i) = i := number_twoBytes (by omega)
    have deletes : deleteWindow 1 i { s with slot := none } = deleteAt i { s with slot := none } := by
      simp only [deleteWindow, editRefusal_of_editable editable]
      exact if_neg (by simp)
    have decided := (congrArg (deleteWindow 1 · { s with slot := none }) place).trans
      (deletes.trans (deleteAt_accepted (s := { s with slot := none }) inside))
    exact accepted (execDeleteWindow_answer admits body decided)
  · intro i inside body
    have place : number (byte (i / 256)) (byte i) = i := number_twoBytes (by omega)
    obtain ⟨clears, -⟩ := clearEntry_accepted (s := { s with slot := none }) editable i
    have decided := (congrArg (clearEntry 1 · { s with slot := none }) place).trans
      (clears.trans (deleteAt_accepted (s := { s with slot := none }) inside))
    exact accepted (execClearEntry_answer admits body decided)
  · intro i low high body
    have place : number (byte (i / 256)) (byte i) = i := number_twoBytes (by omega)
    obtain ⟨-, clears, -⟩ := clearEntry_accepted (s := { s with slot := none }) editable i
    have decided := (congrArg (clearEntry 3 · { s with slot := none }) place).trans (clears low high)
    exact accepted (execClearEntry_answer admits body decided)
  · intro i high body
    have place : number (byte (i / 256)) (byte i) = i := number_twoBytes (by omega)
    obtain ⟨-, -, clears⟩ := clearEntry_accepted (s := { s with slot := none }) editable i
    have decided := (congrArg (clearEntry 7 · { s with slot := none }) place).trans (clears high)
    exact accepted (execClearEntry_answer admits body decided)

end
end Sys2Proof.Machine
end

/-! # Validation and the pin test (Table 8-3, R55, R133 to R135) -/

section
namespace Sys2Proof.Machine

/-! ## Checks that find the lowest index at which something fails -/

/-- The search finds the lowest index at which `P` holds, and nothing when it holds nowhere. -/
def Finds (found : Option Nat) (P : Nat → Prop) : Prop := ∀ i, found = some i ↔ P i ∧ ∀ j, j < i → ¬P j

section
variable {found : Option Nat} {P : Nat → Prop}

theorem Finds.eq_none_iff (h : Finds found P) : found = none ↔ ∀ i, ¬P i := by
  constructor
  · rintro rfl i holds
    induction i using Nat.strong_induction_on with
    | _ i ih => exact absurd ((h i).2 ⟨holds, fun j below held => ih j below held⟩) nofun
  · intro none
    cases found with
    | none => rfl
    | some i => exact absurd ((h i).1 rfl).1 (none i)

theorem finds_nothing (never : ∀ i, ¬P i) : Finds none P := fun i => ⟨nofun, fun holds => absurd holds.1 (never i)⟩

theorem finds_firstWindow (p : Window → Bool) (windows : List Window) :
    Finds (firstWindow p windows) fun i => ∃ w, windows[i]? = some w ∧ p w = true := by
  intro i
  have at' (j : Nat) : (∃ w, windows[j]? = some w ∧ p w = true) ↔ ∃ h : j < windows.length, p windows[j] = true := by
    constructor
    · rintro ⟨w, eq, holds⟩
      obtain ⟨h, rfl⟩ := List.getElem?_eq_some_iff.1 eq
      exact ⟨h, holds⟩
    · rintro ⟨h, holds⟩
      exact ⟨_, List.getElem?_eq_getElem h, holds⟩
  rw [firstWindow, List.findIdx?_eq_some_iff_getElem]
  constructor
  · rintro ⟨h, holds, before⟩
    refine ⟨(at' i).2 ⟨h, holds⟩, fun j below held => ?_⟩
    obtain ⟨_, fails⟩ := (at' j).1 held
    exact before j below fails
  · rintro ⟨holds, before⟩
    obtain ⟨h, holds⟩ := (at' i).1 holds
    exact ⟨h, holds, fun j below held => before j below ((at' j).2 ⟨by omega, held⟩)⟩

theorem finds_zone (p : Nat → Bool) : Finds (zoneNumbers.find? p) fun z => 1 ≤ z ∧ z ≤ 255 ∧ p z = true := by
  intro z
  rw [zoneNumbers, find_range_eq_some]
  constructor
  · rintro ⟨low, high, holds, before⟩
    exact ⟨⟨low, high, holds⟩, fun y below ⟨low', _, held⟩ => by simp [before y low' below] at held⟩
  · rintro ⟨⟨low, high, holds⟩, before⟩
    exact ⟨low, high, holds, fun y low' below => by simpa using fun held => before y below ⟨low', by omega, held⟩⟩

/-- A pair of neighbours out of order, by the index of the first. -/
def Disordered (windows : List Window) (k : Nat) : Prop :=
  ∃ v w, windows[k]? = some v ∧ windows[k + 1]? = some w ∧ ¬v.high < w.low

theorem checkOrder_eq_some_iff (n : Nat) (windows : List Window) (i : Nat) :
    checkOrder n windows = some i ↔ ∃ k, i = n + k + 1 ∧ Disordered windows k ∧ ∀ j, j < k → ¬Disordered windows j := by
  induction windows generalizing n with
  | nil => simp [checkOrder, Disordered]
  | cons w ws ih =>
    cases ws with
    | nil => simp [checkOrder, Disordered]
    | cons v rest =>
      by_cases ascends : w.high < v.low
      · have first : ¬Disordered (w :: v :: rest) 0 := by simp [Disordered, ascends]
        rw [checkOrder, if_pos ascends, ih]
        constructor
        · rintro ⟨k, rfl, bad, before⟩
          refine ⟨k + 1, by omega, bad, fun j below => ?_⟩
          cases j with
          | zero => exact first
          | succ j => exact before j (by omega)
        · rintro ⟨k, rfl, bad, before⟩
          cases k with
          | zero => exact absurd bad first
          | succ k => exact ⟨k, by omega, bad, fun j below => before (j + 1) (by omega)⟩
      · have first : Disordered (w :: v :: rest) 0 := ⟨w, v, rfl, rfl, ascends⟩
        rw [checkOrder, if_neg ascends]
        constructor
        · intro eq
          exact ⟨0, by simpa using (Option.some.inj eq).symm, first, nofun⟩
        · rintro ⟨k, rfl, bad, before⟩
          cases k with
          | zero => rfl
          | succ k => exact absurd first (before 0 (by omega))

theorem finds_order (windows : List Window) :
    Finds (checkOrder 0 windows) fun i => ∃ k v w, i = k + 1 ∧ windows[k]? = some v ∧ windows[k + 1]? = some w ∧ ¬v.high < w.low := by
  intro i
  rw [checkOrder_eq_some_iff]
  constructor
  · rintro ⟨k, rfl, ⟨v, w, bad⟩, before⟩
    refine ⟨⟨k, v, w, by omega, bad⟩, fun j below ⟨l, v', w', eq, bad'⟩ => before l (by omega) ⟨v', w', bad'⟩⟩
  · rintro ⟨⟨k, v, w, rfl, bad⟩, before⟩
    exact ⟨k, by omega, ⟨v, w, bad⟩, fun j below ⟨v', w', bad'⟩ => before (j + 1) (by omega) ⟨j, v', w', rfl, bad'⟩⟩

theorem checkSensorTotal_eq_some_iff (n : Nat) {total : Nat} (few : total ≤ 1024) (windows : List Window) (i : Nat) :
    checkSensorTotal n total windows = some i ↔
      ∃ k, i = n + k ∧ (k < windows.length ∧ 1024 < total + addressesIn Window.senses (windows.take (k + 1)))
        ∧ ∀ j, j < k → ¬(j < windows.length ∧ 1024 < total + addressesIn Window.senses (windows.take (j + 1))) := by
  induction windows generalizing n total with
  | nil => simp [checkSensorTotal]
  | cons w ws ih =>
    have step (k : Nat) : addressesIn Window.senses ((w :: ws).take (k + 1))
        = (if w.senses then w.size else 0) + addressesIn Window.senses (ws.take k) := by
      rw [List.take_succ_cons, addressesIn_cons]
    have first : addressesIn Window.senses (ws.take 0) = 0 := rfl
    have next : checkSensorTotal n total (w :: ws) =
        if 1024 < total + (if w.senses then w.size else 0) then some n
        else checkSensorTotal (n + 1) (total + (if w.senses then w.size else 0)) ws := by
      rw [checkSensorTotal]
      by_cases senses : w.role = .occupancySensor ∨ w.role = .temperatureSensor
      · have : w.senses = true := by simpa [Window.senses] using senses
        rw [if_pos senses, if_pos this]
      · have : ¬w.senses = true := by simpa [Window.senses] using senses
        simp only [if_neg senses, if_neg this, Nat.add_zero]
        rw [if_neg (by omega)]
    rw [next]
    by_cases exceeds : 1024 < total + (if w.senses then w.size else 0)
    · rw [if_pos exceeds]
      constructor
      · intro eq
        exact ⟨0, (Option.some.inj eq).symm, ⟨by simp, by rw [step, first]; exact exceeds⟩, nofun⟩
      · rintro ⟨k, rfl, bad, before⟩
        cases k with
        | zero => rfl
        | succ k => exact absurd ⟨by simp, by rw [step, first]; exact exceeds⟩ (before 0 (by omega))
    · rw [if_neg exceeds]
      have carried (k : Nat) : (k + 1 < (w :: ws).length ∧ 1024 < total + addressesIn Window.senses ((w :: ws).take (k + 1 + 1)))
          ↔ k < ws.length ∧ 1024 < total + (if w.senses then w.size else 0) + addressesIn Window.senses (ws.take (k + 1)) := by
        rw [step, ← Nat.add_assoc, List.length_cons, Nat.add_lt_add_iff_right]
      have here : ¬(0 < (w :: ws).length ∧ 1024 < total + addressesIn Window.senses ((w :: ws).take (0 + 1))) := by
        rw [step, first]
        exact fun held => exceeds held.2
      rw [ih (n + 1) (by omega)]
      constructor
      · rintro ⟨k, rfl, bad, before⟩
        refine ⟨k + 1, by omega, (carried k).2 bad, fun j below => ?_⟩
        cases j with
        | zero => exact here
        | succ j => exact fun held => before j (by omega) ((carried j).1 held)
      · rintro ⟨k, rfl, bad, before⟩
        cases k with
        | zero => exact absurd bad here
        | succ k => exact ⟨k, by omega, (carried k).1 bad, fun j below held => before (j + 1) (by omega) ((carried j).2 held)⟩

theorem finds_sensorTotal (windows : List Window) :
    Finds (checkSensorTotal 0 0 windows) fun i =>
      i < windows.length ∧ 1024 < addressesIn Window.senses (windows.take (i + 1)) := by
  intro i
  have total := checkSensorTotal_eq_some_iff 0 (Nat.zero_le 1024) windows i
  simpa using total

/-! ## The first eight checks in their order -/

/-- The check of this name of a bank (Table 8-3); the pin test compares two banks and is not among them. -/
def Check.of (b : Bank) : Check → Option Nat
  | .order => checkOrder 0 b.windows
  | .zoneMissing => checkZoneMissing b
  | .zoneZero => checkZoneZero b
  | .levels => checkLevels b
  | .actuatorLimit => checkActuators b
  | .tempLimit => checkTemperatures b
  | .sensorTotal => checkSensorTotal 0 0 b.windows
  | .pinAttribute => checkPinAttribute b
  | .pinConflict => none

theorem Check.forall_iff {P : Check → Prop} :
    (∀ d, P d) ↔ P .order ∧ P .zoneMissing ∧ P .zoneZero ∧ P .levels ∧ P .actuatorLimit ∧ P .tempLimit ∧ P .sensorTotal
      ∧ P .pinAttribute ∧ P .pinConflict := by
  refine ⟨fun all => ⟨all _, all _, all _, all _, all _, all _, all _, all _, all _⟩, fun ⟨a, b, c, d, e, f, g, i, j⟩ x => ?_⟩
  cases x <;> assumption

/-- The first failing check is the one that finds something when no check before it does. -/
theorem firstFailure_eq_some_iff (b : Bank) (c : Check) (i : Nat) :
    firstFailure b = some (c, i) ↔ c.of b = some i ∧ ∀ d : Check, d.code < c.code → d.of b = none := by
  rw [Check.forall_iff]
  cases c <;> simp [firstFailure, Check.of, Check.code] <;> tauto

theorem Finds.congr {Q : Nat → Prop} (h : Finds found P) (same : ∀ i, P i ↔ Q i) : Finds found Q := fun i => by
  simpa only [same] using h i

theorem finds_zoneMissing {b : Bank} (stored : b.Stored) :
    Finds (checkZoneMissing b) fun i =>
      ∃ w, b.windows[i]? = some w ∧ w.translate = true ∧ 1 ≤ w.zone ∧ w.zone ≤ 255 ∧ (b.zone w.zone).present = false := by
  obtain ⟨-, inRange, -⟩ := stored
  refine (finds_firstWindow _ b.windows).congr fun i => exists_congr fun w => and_congr_right fun listed => ?_
  obtain ⟨-, -, -, -, -, numbered, -⟩ := inRange w (List.mem_of_getElem? listed)
  simp [numbered, and_assoc, Nat.one_le_iff_ne_zero]

theorem finds_zoneZero (b : Bank) : Finds (checkZoneZero b) fun i => ∃ w, b.windows[i]? = some w ∧ w.translate = true ∧ w.zone = 0 :=
  (finds_firstWindow _ b.windows).congr fun i => exists_congr fun w => by simp

theorem finds_levels (b : Bank) :
    Finds (checkLevels b) fun z => 1 ≤ z ∧ z ≤ 255 ∧ (b.zone z).present = true ∧ (b.zone z).onLevel < (b.zone z).minOn :=
  (finds_zone _).congr fun z => by simp

theorem finds_actuators (b : Bank) :
    Finds (checkActuators b) fun z => 1 ≤ z ∧ z ≤ 255
      ∧ 64 < addressesIn (fun w => w.translate && w.zone == z && (w.role == .luminaire || w.role == .damper)) b.windows :=
  (finds_zone _).congr fun _ => and_congr_right fun _ => and_congr_right fun _ => decide_eq_true_iff

theorem finds_temperatures (b : Bank) :
    Finds (checkTemperatures b) fun z => 1 ≤ z ∧ z ≤ 255
      ∧ 32 < addressesIn (fun w => w.translate && w.zone == z && w.role == .temperatureSensor) b.windows :=
  (finds_zone _).congr fun _ => and_congr_right fun _ => and_congr_right fun _ => decide_eq_true_iff

theorem finds_pinAttribute (b : Bank) :
    Finds (checkPinAttribute b) fun i => ∃ w, b.windows[i]? = some w ∧ w.pin = true ∧ w.translate = false :=
  (finds_firstWindow _ b.windows).congr fun i => exists_congr fun w => by simp

/-- The first failing check, when each check finds the lowest index at which its row fails. -/
theorem firstFailure_of_finds {b : Bank} {fails : Check → Nat → Prop} (finds : ∀ c : Check, Finds (c.of b) (fails c)) (c : Check) (i : Nat) :
    firstFailure b = some (c, i) ↔ fails c i ∧ (∀ j, j < i → ¬fails c j) ∧ ∀ (d : Check) j, d.code < c.code → ¬fails d j := by
  rw [firstFailure_eq_some_iff, finds c i, and_assoc]
  refine and_congr_right fun _ => and_congr_right fun _ => forall_congr' fun d => ?_
  rw [(finds d).eq_none_iff]
  exact forall_comm

/-- The limits of a bank, as the searches that find nothing state them. -/
theorem forall_getElem?_iff {windows : List Window} {p : Window → Prop} :
    (∀ i : Nat, ¬∃ w, windows[i]? = some w ∧ p w) ↔ ∀ w ∈ windows, ¬p w := by
  constructor
  · intro none w listed holds
    obtain ⟨i, eq⟩ := List.mem_iff_getElem?.1 listed
    exact none i ⟨w, eq, holds⟩
  · rintro none i ⟨w, eq, holds⟩
    exact none w (List.mem_of_getElem? eq) holds

theorem addressesIn_take_le (p : Window → Bool) (windows : List Window) (n : Nat) : addressesIn p (windows.take n) ≤ addressesIn p windows := by
  have split := congrArg (addressesIn p) (List.take_append_drop n windows)
  simp only [addressesIn, List.filter_append, List.map_append, List.sum_append] at split ⊢
  omega

/-- The running total stays within 1,024 exactly when the whole does. -/
theorem checkSensorTotal_eq_none_iff (windows : List Window) :
    checkSensorTotal 0 0 windows = none ↔ addressesIn Window.senses windows ≤ 1024 := by
  rw [(finds_sensorTotal windows).eq_none_iff]
  constructor
  · intro none
    cases length : windows.length with
    | zero => simp [List.eq_nil_of_length_eq_zero length, addressesIn]
    | succ n =>
      have last := none n
      rw [← length, List.take_length] at last
      omega
  · intro few i exceeds
    have := addressesIn_take_le Window.senses windows (i + 1)
    omega

/-- Settles O48: each check finds the lowest index at which its row fails, and all find nothing on a valid bank. -/
theorem validationChecksTheWholeBank : Obligations.ValidationChecksTheWholeBank := by
  intro b stored held fails
  have inRange := stored.2.1
  have finds (c : Check) : Finds (c.of b) (fails c) := by
    cases c with
    | order => exact finds_order b.windows
    | zoneMissing => exact finds_zoneMissing stored
    | zoneZero => exact finds_zoneZero b
    | levels => exact finds_levels b
    | actuatorLimit => exact finds_actuators b
    | tempLimit => exact finds_temperatures b
    | sensorTotal => exact finds_sensorTotal b.windows
    | pinAttribute => exact finds_pinAttribute b
    | pinConflict => exact finds_nothing fun _ => id
  refine ⟨firstFailure_of_finds finds, ?_⟩
  have proper : ∀ w ∈ b.windows, w.low ≤ w.high := fun w listed => (inRange w listed).low_le_high
  have order : checkOrder 0 b.windows = none ↔ b.windows.Pairwise fun w v => w.high < v.low := checkOrder_eq_none_iff proper 0
  rw [firstFailure_eq_none_iff, order, (finds_zoneMissing stored).eq_none_iff, (finds_zoneZero b).eq_none_iff,
    (finds_levels b).eq_none_iff, (finds_actuators b).eq_none_iff, (finds_temperatures b).eq_none_iff, checkSensorTotal_eq_none_iff,
    (finds_pinAttribute b).eq_none_iff]
  simp only [forall_getElem?_iff]
  have actuators (z : Nat) : (membersOfRole b.windows z .luminaire).length + (membersOfRole b.windows z .damper).length
      = addressesIn (fun w => w.translate && w.zone == z && (w.role == .luminaire || w.role == .damper)) b.windows := by
    rw [length_membersOfRole, length_membersOfRole, addressesIn_or fun w => by simp +contextual]
    simp only [Window.joins, ← Bool.and_or_distrib_left]
  have temperatures (z : Nat) : (membersOfRole b.windows z .temperatureSensor).length
      = addressesIn (fun w => w.translate && w.zone == z && w.role == .temperatureSensor) b.windows := length_membersOfRole ..
  have sensors : ((b.windows.filter fun w => w.role = .occupancySensor ∨ w.role = .temperatureSensor).map
      fun w => w.high + 1 - w.low).sum = addressesIn Window.senses b.windows := by
    have same : (b.windows.filter fun w => w.role = .occupancySensor ∨ w.role = .temperatureSensor) = b.windows.filter Window.senses :=
      List.filter_congr fun w _ => Bool.eq_iff_iff.2 (by simp [Window.senses])
    rw [same]
    rfl
  simp only [actuators, temperatures, sensors]
  constructor
  · rintro ⟨ascend, missing, zero, levels, few, warm, total, pins⟩
    refine ⟨ascend, fun w listed translates => ⟨fun none => zero w listed ⟨translates, none⟩, ?_⟩, fun z present => ?_,
      fun z low high => ⟨?_, ?_⟩, total, fun w listed pinned => ?_⟩
    · have named : w.zone ≠ 0 := fun none => zero w listed ⟨translates, none⟩
      obtain ⟨-, -, -, -, -, numbered, -⟩ := inRange w listed
      by_contra absent
      exact missing w listed ⟨translates, by omega, numbered, by simpa using absent⟩
    · obtain ⟨low, high⟩ := Bank.isZone_of_present present
      by_contra inverted
      exact levels z ⟨low, high, present, by omega⟩
    · exact Nat.not_lt.1 fun many => few z ⟨low, high, many⟩
    · exact Nat.not_lt.1 fun many => warm z ⟨low, high, many⟩
    · by_contra idle
      exact pins w listed ⟨pinned, by simpa using idle⟩
  · rintro ⟨ascend, present, levels, few, total, pins⟩
    refine ⟨ascend, fun w listed bad => ?_, fun w listed bad => ?_, fun z bad => ?_, fun z bad => ?_, fun z bad => ?_, total,
      fun w listed bad => ?_⟩
    · obtain ⟨translates, -, -, absent⟩ := bad
      exact Bool.false_ne_true (absent.symm.trans (present w listed translates).2)
    · exact (present w listed bad.1).1 bad.2
    · obtain ⟨-, -, here, inverted⟩ := bad
      have := levels z here
      omega
    · obtain ⟨low, high, many⟩ := bad
      have := (few z low high).1
      omega
    · obtain ⟨low, high, many⟩ := bad
      have := (few z low high).2
      omega
    · exact Bool.false_ne_true (bad.2.symm.trans (pins w listed bad.1))

end
end Sys2Proof.Machine
end

/-! # The pin test (R54, R55, R135) -/

section
namespace Sys2Proof.Machine

theorem pinned_iff (windows : List Window) (z : Nat) : pinned windows z = true ↔ ∃ w ∈ windows, w.pin = true ∧ w.zone = z := by
  simp [pinned]

theorem memberOf_iff_window (windows : List Window) (z a : Nat) :
    memberOf windows z a = true ↔ ∃ w ∈ windows, w.translate = true ∧ w.zone = z ∧ w.low ≤ a ∧ a ≤ w.high :=
  memberOf_iff.trans mem_members

theorem sameMembers_iff (old new : List Window) (z : Nat) :
    sameMembers old new z = true ↔ ∀ a, memberOf new z a = true ↔ memberOf old z a = true := by
  simp only [sameMembers, Bool.and_eq_true, List.all_eq_true, ← memberOf_iff]
  exact ⟨fun ⟨there, back⟩ a => ⟨back a, there a⟩, fun same => ⟨fun a => (same a).2, fun a => (same a).1⟩⟩

theorem samePlace_any_iff (windows : List Window) (w : Window) :
    (windows.any fun v => v.samePlace w) = true ↔
      ∃ v ∈ windows, v.low = w.low ∧ v.high = w.high ∧ v.segment = w.segment ∧ v.zone = w.zone ∧ v.role = w.role := by
  simp [Window.samePlace, and_assoc]

theorem mem_of_zonesFound {p : Nat → Prop} {q : Nat → Bool} (same : ∀ z, q z = true ↔ p z) :
    Finds (zoneNumbers.find? q) fun z => 1 ≤ z ∧ z ≤ 255 ∧ p z := (finds_zone q).congr fun z => by rw [same]

/-- Settles O49: the first pinned window without an equal, then the lowest changed zone, then the lowest moved one. -/
theorem pinTestProtectsPinnedRooms : Obligations.PinTestProtectsPinnedRooms := by
  intro old new _ _ isPinned isMember survives changed moved
  have pins (z : Nat) : pinned old.windows z = true ↔ isPinned z := pinned_iff old.windows z
  have member (b : Bank) (z a : Nat) : memberOf b.windows z a = true ↔ isMember b z a := memberOf_iff_window b.windows z a
  have place (w : Window) : (w.pin && !(new.windows.any fun v => v.samePlace w)) = true ↔ w.pin = true ∧ ¬survives w := by
    rw [Bool.and_eq_true, Bool.not_eq_true', ← Bool.not_eq_true, samePlace_any_iff]
  have search (w : Window) : (old.windows.find? fun w => w.pin && !(new.windows.any fun v => v.samePlace w)) = some w ↔
      (w.pin = true ∧ ¬survives w) ∧ ∃ before after, old.windows = before ++ w :: after ∧ ∀ v ∈ before, v.pin = true → survives v := by
    rw [List.find?_eq_some_iff_append, place]
    refine and_congr_right fun _ => exists_congr fun before => exists_congr fun after => and_congr_right fun _ =>
      forall₂_congr fun v _ => ?_
    rw [Bool.not_eq_true', ← Bool.not_eq_true, place, not_and, not_not]
  have findsChanged : Finds (zoneNumbers.find? fun z => pinned old.windows z && (!(new.zone z).present || new.zone z != old.zone z)) changed :=
    mem_of_zonesFound fun z => by
      rw [Bool.and_eq_true, pins]
      simp [not_and, or_iff_not_imp_left]
  have findsMoved : Finds (zoneNumbers.find? fun z => pinned old.windows z && !sameMembers old.windows new.windows z) moved :=
    mem_of_zonesFound fun z => by
      rw [Bool.and_eq_true, pins, Bool.not_eq_true', ← Bool.not_eq_true, sameMembers_iff]
      simp only [member]
  have noneLost : (old.windows.find? fun w => w.pin && !(new.windows.any fun v => v.samePlace w)) = none ↔
      ∀ w ∈ old.windows, w.pin = true → survives w := by
    rw [List.find?_eq_none]
    refine forall₂_congr fun w _ => ?_
    rw [place, not_and, not_not]
  refine ⟨pins, ?_, ?_⟩
  · intro z
    rw [pinTest]
    cases lost : old.windows.find? fun w => w.pin && !(new.windows.any fun v => v.samePlace w) with
    | some w =>
      obtain ⟨⟨isPin, gone⟩, before, after, split, earlier⟩ := (search w).1 lost
      constructor
      · intro eq
        exact .inl ⟨before, w, after, split, isPin, gone, Option.some.inj eq, earlier⟩
      · rintro (⟨before', w', after', split', isPin', gone', rfl, earlier'⟩ | ⟨allKept, -⟩)
        · have found := (search w').2 ⟨⟨isPin', gone'⟩, before', after', split', earlier'⟩
          rw [Option.some.inj (lost.symm.trans found)]
        · exact absurd (allKept w (List.mem_of_find?_eq_some lost) isPin) gone
    | none =>
      have allKept := noneLost.1 lost
      have found : ¬∃ before w after, old.windows = before ++ w :: after ∧ w.pin = true ∧ ¬survives w ∧ w.zone = z
          ∧ ∀ v ∈ before, v.pin = true → survives v := by
        rintro ⟨before, w, after, split, isPin, gone, -⟩
        exact gone (allKept w (by simp [split]) isPin)
      rw [or_iff_right found, and_iff_right allKept]
      dsimp only
      cases differs : zoneNumbers.find? fun z => pinned old.windows z && (!(new.zone z).present || new.zone z != old.zone z) with
      | some y =>
        obtain ⟨holds, -⟩ := (findsChanged y).1 differs
        rw [or_iff_left fun both => both.1 y holds, ← findsChanged z, differs]
      | none =>
        have still := findsChanged.eq_none_iff.1 differs
        rw [or_iff_right fun both => still z both.1, and_iff_right still]
        exact findsMoved z
  · rw [pinTest]
    cases lost : old.windows.find? fun w => w.pin && !(new.windows.any fun v => v.samePlace w) with
    | some w =>
      obtain ⟨⟨isPin, gone⟩, -⟩ := (search w).1 lost
      exact iff_of_false nofun fun both => gone (both.1 w (List.mem_of_find?_eq_some lost) isPin)
    | none =>
      rw [and_iff_right (noneLost.1 lost)]
      dsimp only
      cases differs : zoneNumbers.find? fun z => pinned old.windows z && (!(new.zone z).present || new.zone z != old.zone z) with
      | some y =>
        obtain ⟨⟨low, high, isPin, differs⟩, -⟩ := (findsChanged y).1 differs
        exact iff_of_false nofun fun same => differs (same y low high isPin).1
      | none =>
        have still := findsChanged.eq_none_iff.1 differs
        refine findsMoved.eq_none_iff.trans ⟨fun steady z low high isPin => ⟨?_, ?_⟩, fun same z bad => ?_⟩
        · exact not_not.1 fun differs => still z ⟨low, high, isPin, differs⟩
        · exact not_not.1 fun differs => steady z ⟨low, high, isPin, differs⟩
        · obtain ⟨low, high, isPin, differs⟩ := bad
          exact differs (same z low high isPin).2

end Sys2Proof.Machine
end

/-! # Dominance and the computed state (R150 to R152, Table 9-1) -/

section
namespace Sys2Proof.Machine

/-! ## The dominant contributor -/

section
variable (old new : List Window) (z : Nat)

theorem mem_contributors {y : Nat} :
    y ∈ contributors old new z ↔ 1 ≤ y ∧ y ≤ 255 ∧ ∃ a, memberOf old y a = true ∧ memberOf new z a = true := by
  simp only [contributors, List.mem_filter, mem_zoneNumbers, List.any_eq_true, ← memberOf_iff, and_assoc]
  exact and_congr_right fun _ => and_congr_right fun _ => exists_congr fun _ => and_comm

theorem contributors_ascend : (contributors old new z).Pairwise (· < ·) := List.Pairwise.filter _ List.pairwise_lt_range'

/-- Contributor `d` dominates contributor `y`: more moving luminaires, then more moving addresses, then the lower number. -/
def Dominates (d y : Nat) : Prop :=
  movingLuminaires old new y z < movingLuminaires old new d z
    ∨ movingLuminaires old new y z = movingLuminaires old new d z
      ∧ (movingAddresses old new y z < movingAddresses old new d z
        ∨ movingAddresses old new y z = movingAddresses old new d z ∧ d < y)

variable {old new z}

theorem Dominates.trans {a b c : Nat} (h : Dominates old new z a b) (k : Dominates old new z b c) : Dominates old new z a c := by
  unfold Dominates at *; omega

theorem Dominates.of_outranks {y b : Nat} (h : outranks old new z y b = true) : Dominates old new z y b := by
  simp only [outranks, Bool.or_eq_true, Bool.and_eq_true, decide_eq_true_eq, beq_iff_eq] at h
  unfold Dominates; omega

theorem Dominates.of_not_outranks {y b : Nat} (h : ¬outranks old new z y b = true) (before : b < y) : Dominates old new z b y := by
  simp only [outranks, Bool.or_eq_true, Bool.and_eq_true, decide_eq_true_eq, beq_iff_eq] at h
  unfold Dominates; omega

/-- Of two contributors in ascending order, the one that dominates. -/
def stronger (old new : List Window) (z : Nat) (best : Option Nat) (y : Nat) : Option Nat :=
  match best with
  | none => some y
  | some b => if outranks old new z y b then some y else some b

theorem dominant_eq : dominant old new z = (contributors old new z).foldl (stronger old new z) none := rfl

/-- `best` is the strongest of the contributors `ys`: none of none. -/
def Strongest (old new : List Window) (z : Nat) (ys : List Nat) : Option Nat → Prop
  | none => ys = []
  | some d => d ∈ ys ∧ ∀ y ∈ ys, y ≠ d → Dominates old new z d y

theorem Strongest.append {ys : List Nat} {best : Option Nat} {y : Nat} (h : Strongest old new z ys best) (last : ∀ x ∈ ys, x < y) :
    Strongest old new z (ys ++ [y]) (stronger old new z best y) := by
  cases best with
  | none => obtain rfl : ys = [] := h; simp [stronger, Strongest]
  | some b =>
    obtain ⟨mem, above⟩ := h
    simp only [stronger]
    split
    · next outranked =>
      refine ⟨by simp, fun x hx ne => ?_⟩
      have weaker := Dominates.of_outranks outranked
      obtain hx : x ∈ ys := by simpa [ne] using hx
      by_cases same : x = b
      · exact same ▸ weaker
      · exact weaker.trans (above x hx same)
    · next kept =>
      refine ⟨by simp [mem], fun x hx ne => ?_⟩
      obtain hx | hx := List.mem_append.1 hx
      · exact above x hx ne
      · obtain rfl := List.mem_singleton.1 hx
        exact .of_not_outranks kept (last b mem)

theorem strongest_foldl (ys : List Nat) (ascend : ys.Pairwise (· < ·)) :
    Strongest old new z ys (ys.foldl (stronger old new z) none) := by
  induction ys using List.reverseRecOn with
  | nil => rfl
  | append_singleton ys y ih =>
    obtain ⟨ascend, -, last⟩ := List.pairwise_append.1 ascend
    rw [List.foldl_append]
    exact (ih ascend).append fun x hx => last x hx y List.mem_cons_self

theorem dominant_strongest (old new : List Window) (z : Nat) : Strongest old new z (contributors old new z) (dominant old new z) := by
  rw [dominant_eq]
  exact strongest_foldl _ (contributors_ascend old new z)

theorem dominant_eq_none_iff : dominant old new z = none ↔ contributors old new z = [] := by
  have strongest := dominant_strongest old new z
  constructor
  · intro none; rwa [none] at strongest
  · intro empty
    rw [dominant_eq, empty]; rfl

end

/-! ## What moves -/

theorem members_nodup {windows : List Window} (ascend : windows.Pairwise fun w v => w.high < v.low) (z : Nat) : (members windows z).Nodup :=
  (addresses_ascend ascend _).imp fun below => below.ne

/-- The moving luminaires (R150). -/
theorem movingLuminaires_eq (old new : List Window) (y z : Nat) :
    movingLuminaires old new y z = (((membersOfRole new z .luminaire).map Prod.snd).filter (memberOf old y)).length := by
  rw [List.filter_map, List.length_map]
  rfl

/-! ## The computed state -/

theorem largest_attained (f : Nat → Nat) {zs : List Nat} (some : zs ≠ []) : ∃ y ∈ zs, largest f zs = f y ∧ ∀ x ∈ zs, f x ≤ f y := by
  obtain ⟨attained, -, above⟩ := foldl_max_spec f zs 0
  have attained : ∃ y ∈ zs, largest f zs = f y := by
    obtain none | attained := attained
    · obtain ⟨y, hy⟩ := List.exists_mem_of_ne_nil zs some
      exact ⟨y, hy, none.trans (by have := above y hy; omega)⟩
    · exact attained
  obtain ⟨y, hy, same⟩ := attained
  exact ⟨y, hy, same, fun x hx => (le_largest f hx).trans same.le⟩

section
variable {r : ZoneRecord} {zones : Nat → ZoneState} {ys : List Nat} {dom : ZoneState}

theorem filter_occupancy_ne_nil_iff {o : Occupancy} :
    (ys.filter fun y => (zones y).occupancy == o) ≠ [] ↔ ∃ y ∈ ys, (zones y).occupancy = o := by
  simp [List.filter_eq_nil_iff]

theorem inheritFrom_occupied (occupied : ∃ y ∈ ys, (zones y).occupancy = .occupied) :
    inheritFrom r zones ys dom =
      { ZoneState.idle with
        occupancy := .occupied
        hold := min (largest (fun y => (zones y).hold) (ys.filter fun y => (zones y).occupancy == .occupied)) r.fullHold
        level := r.bound (if dom.occupancy = .vacant then r.onLevel else dom.level)
        offset := dom.offset
        damper := dom.damper } := if_pos (filter_occupancy_ne_nil_iff.2 occupied)

theorem inheritFrom_grace (none : ¬∃ y ∈ ys, (zones y).occupancy = .occupied) (grace : ∃ y ∈ ys, (zones y).occupancy = .grace)
    (graceTime : r.graceTime ≠ 0) :
    inheritFrom r zones ys dom =
      let p := r.bound (if dom.occupancy = .grace then dom.preGrace else r.onLevel)
      { ZoneState.idle with
        occupancy := .grace
        grace := min (largest (fun y => (zones y).grace) (ys.filter fun y => (zones y).occupancy == .grace)) r.graceTime
        preGrace := p
        level := r.bound (r.graceLevel p)
        offset := dom.offset
        damper := dom.damper } :=
  (if_neg (mt filter_occupancy_ne_nil_iff.1 none)).trans (if_pos ⟨filter_occupancy_ne_nil_iff.2 grace, graceTime⟩)

theorem inheritFrom_vacant (none : ¬∃ y ∈ ys, (zones y).occupancy = .occupied)
    (graceless : (∃ y ∈ ys, (zones y).occupancy = .grace) → r.graceTime = 0) :
    inheritFrom r zones ys dom = { ZoneState.idle with damper := dom.damper } :=
  (if_neg (mt filter_occupancy_ne_nil_iff.1 none)).trans
    (if_neg fun ⟨grace, graceTime⟩ => graceTime (graceless (filter_occupancy_ne_nil_iff.1 grace)))

/-- The largest remaining time among the zones of an occupancy. -/
theorem largest_occupancy (f : Nat → Nat) {o : Occupancy} (some : ∃ y ∈ ys, (zones y).occupancy = o) :
    ∃ y, y ∈ ys ∧ (zones y).occupancy = o ∧ (∀ x, x ∈ ys → (zones x).occupancy = o → f x ≤ f y)
      ∧ largest f (ys.filter fun y => (zones y).occupancy == o) = f y := by
  obtain ⟨y, hy, same, most⟩ := largest_attained f (filter_occupancy_ne_nil_iff.2 some)
  simp only [List.mem_filter, beq_iff_eq, and_imp] at hy most
  exact ⟨y, hy.1, hy.2, most, same⟩

end

theorem ZoneRecord.bound_graceLevel {r : ZoneRecord} (record : r.InRange) (l : Nat) :
    r.bound (r.graceLevel (r.bound l)) = r.graceLevel (r.bound l) :=
  ZoneState.LevelLaw.bound_graceLevel (v := { ZoneState.idle with occupancy := .occupied, level := r.bound l })
    ⟨nofun, r.bound_lawful _ record.minOn_le, by simp [ZoneState.idle], by simp [ZoneState.idle], by simp [ZoneState.idle], rfl⟩ record

theorem ZoneState.withReadings_rest (v : ZoneState) (rs : List (Nat × Int)) :
    ∃ t u n d, v.withReadings rs = { v with temperature := t, status := u, count := n, spread := d } := by
  rw [ZoneState.withReadings]
  split
  · split <;> exact ⟨_, _, _, _, rfl⟩
  · exact ⟨_, _, _, _, rfl⟩

theorem ZoneState.withReadings_nil {v : ZoneState} (none : v.status = .none) :
    v.withReadings [] = { v with temperature := Option.none, status := .none, count := 0, spread := 0 } := by
  simp [ZoneState.withReadings, weightTotal, none]

theorem ZoneState.withReadings_of_some (v : ZoneState) {rs : List (Nat × Int)} {a b : Int} (between : ReadingsBetween a b rs) (some : rs ≠ []) :
    v.withReadings rs =
      { v with temperature := .some (weightedMean rs), status := .valid, count := rs.length, spread := readingSpread rs } :=
  if_neg (mt (weightTotal_eq_zero_iff between).1 some)

/-- What a new zone inherits, its temperature fields not yet computed (R151, R152). -/
def State.inherited (s : State) (z : Nat) : ZoneState :=
  match dominant s.active.windows s.staged.windows z with
  | none => .idle
  | some d => inheritFrom (s.stagedRecord z) s.zone (contributors s.active.windows s.staged.windows z) (s.zone d)

theorem State.computedState_eq (s : State) (z : Nat) :
    s.computedState z = (s.inherited z).withReadings (s.includedReadings s.staged.windows z) := rfl

theorem inheritFrom_quiet (r : ZoneRecord) (zones : Nat → ZoneState) (ys : List Nat) (dom : ZoneState) :
    (inheritFrom r zones ys dom).status = .none ∧ (inheritFrom r zones ys dom).outputIncomplete = false
      ∧ (inheritFrom r zones ys dom).reportPending = false ∧ (inheritFrom r zones ys dom).frozen = false
      ∧ (inheritFrom r zones ys dom).expiring = false := by
  simp only [inheritFrom]
  split
  · exact ⟨rfl, rfl, rfl, rfl, rfl⟩
  · split <;> exact ⟨rfl, rfl, rfl, rfl, rfl⟩

theorem inheritFrom_damper (r : ZoneRecord) (zones : Nat → ZoneState) (ys : List Nat) (dom : ZoneState) :
    (inheritFrom r zones ys dom).damper = dom.damper := by
  simp only [inheritFrom]
  split
  · rfl
  · split <;> rfl

theorem State.inherited_quiet (s : State) (z : Nat) :
    (s.inherited z).status = .none ∧ (s.inherited z).outputIncomplete = false ∧ (s.inherited z).reportPending = false
      ∧ (s.inherited z).frozen = false ∧ (s.inherited z).expiring = false := by
  rw [State.inherited]
  split
  · exact ⟨rfl, rfl, rfl, rfl, rfl⟩
  · exact inheritFrom_quiet _ _ _ _

/-- Settles O52: the contributors are met in ascending number, and each case of Table 9-1 is a case of the inheritance. -/
theorem dominantContributorHasMostLuminaires : Obligations.DominantContributorHasMostLuminaires := by
  refine ⟨?_, ?_, ?_⟩
  · intro old new z _ _ contributes rank
    have strongest := dominant_strongest old.windows new.windows z
    have member (y : Nat) : y ∈ contributors old.windows new.windows z ↔ contributes y := mem_contributors _ _ _
    refine ⟨?_, fun d chosen => ?_⟩
    · rw [dominant_eq_none_iff, List.eq_nil_iff_forall_not_mem]
      exact forall_congr' fun y => not_congr (member y)
    · rw [chosen] at strongest
      obtain ⟨mem, above⟩ := strongest
      exact ⟨(member d).1 mem, fun y contributing ne => above y ((member y).2 contributing) ne⟩
  · intro old new y z _ valid inZone
    have inWindow (b : Bank) (x a : Nat) : memberOf b.windows x a = true ↔ ∃ w, inZone b x a w := memberOf_iff_window _ _ _
    have ascend := valid.windows_ascend
    refine ⟨inWindow new z, (members new.windows z).filter (memberOf old.windows y),
      ((membersOfRole new.windows z .luminaire).map Prod.snd).filter (memberOf old.windows y), (members_nodup ascend z).filter _,
      ((membersOfRole_ascend ascend z _).imp fun below => below.ne).filter _, fun a => ?_, fun a => ?_, rfl, movingLuminaires_eq _ _ _ _⟩
    · rw [List.mem_filter, ← memberOf_iff, inWindow, inWindow, and_comm]
    · simp only [List.mem_filter, List.mem_map, Prod.exists, exists_eq_right, mem_membersOfRole, inWindow]
      rw [and_comm]
      exact and_congr_right fun _ => exists_congr fun w =>
        ⟨fun ⟨there, translate, zone, role, low, high⟩ => ⟨⟨there, translate, zone, low, high⟩, role⟩,
          fun ⟨⟨there, translate, zone, low, high⟩, role⟩ => ⟨there, translate, zone, role, low, high⟩⟩
  · intro s z h valid present contributes r c readings raised some_occupied some_grace
    obtain ⟨low, high⟩ := Bank.isZone_of_present present
    have record : r.InRange := h.stagedRecord_inRange z
    have on : r.bound r.onLevel = r.onLevel := r.bound_onLevel record (valid.minOn_le_onLevel present)
    have member (y : Nat) : y ∈ contributors s.active.windows s.staged.windows z ↔ contributes y := mem_contributors _ _ _
    have some_iff (o : Occupancy) : (∃ y ∈ contributors s.active.windows s.staged.windows z, (s.zone y).occupancy = o) ↔
        ∃ y, contributes y ∧ (s.zone y).occupancy = o := exists_congr fun y => and_congr_left' (member y)
    have between := h.includedReadings_between (fun _ hw => valid.window_inRange hw) z
    obtain ⟨-, ⟨held, graced, -⟩, -⟩ := h.computedState_sound valid low high
    obtain ⟨noStatus, complete, unreported, thawed, quiet⟩ := s.inherited_quiet z
    obtain ⟨t, u, n, d', rest⟩ := (s.inherited z).withReadings_rest readings
    have rest : c = { s.inherited z with temperature := t, status := u, count := n, spread := d' } := (s.computedState_eq z).trans rest
    refine ⟨fun none => ?_, fun d chosen => ?_, fun empty => ?_, fun some => ?_, ?_⟩
    · have nobody : dominant s.active.windows s.staged.windows z = .none :=
        dominant_eq_none_iff.2 (List.eq_nil_iff_forall_not_mem.2 fun y hy => none y ((member y).1 hy))
      rw [rest, State.inherited, nobody]
      exact ⟨rfl, rfl, rfl, rfl, rfl, rfl, rfl⟩
    · have from_d : s.inherited z = inheritFrom r s.zone (contributors s.active.windows s.staged.windows z) (s.zone d) := by
        rw [State.inherited, chosen]
      have law := h.zone_sound d
      refine ⟨?_, fun occupied => ?_, fun none grace graceTime => ?_, fun none graceless => ?_⟩
      · rw [rest, from_d]
        exact inheritFrom_damper _ _ _ _
      · obtain ⟨y, hy, isOccupied, most, same⟩ := largest_occupancy (fun y => (s.zone y).hold) ((some_iff _).2 occupied)
        rw [from_d, inheritFrom_occupied ((some_iff _).2 occupied), same] at rest
        have occ : c.occupancy = .occupied := (congrArg ZoneState.occupancy rest :)
        refine ⟨occ, ⟨y, (member y).1 hy, isOccupied, fun x hx => most x ((member x).2 hx), (congrArg ZoneState.hold rest :)⟩, held occ,
          (congrArg ZoneState.grace rest :), (congrArg ZoneState.preGrace rest :), (congrArg ZoneState.level rest :).trans ?_,
          (congrArg ZoneState.offset rest :)⟩
        split
        · exact on
        · exact ZoneRecord.bound_eq_max record law.level.level_le
      · obtain ⟨y, hy, isGrace, most, same⟩ := largest_occupancy (fun y => (s.zone y).grace) ((some_iff _).2 grace)
        rw [from_d, inheritFrom_grace (mt (some_iff _).1 none) ((some_iff _).2 grace) graceTime, same] at rest
        have occ : c.occupancy = .grace := (congrArg ZoneState.occupancy rest :)
        have before : c.preGrace = r.bound (if (s.zone d).occupancy = .grace then (s.zone d).preGrace else r.onLevel) :=
          (congrArg ZoneState.preGrace rest :)
        refine ⟨occ, ⟨y, (member y).1 hy, isGrace, fun x hx => most x ((member x).2 hx), (congrArg ZoneState.grace rest :)⟩, graced occ,
          (congrArg ZoneState.hold rest :), before.trans ?_, (congrArg ZoneState.level rest :).trans ?_,
          (congrArg ZoneState.offset rest :)⟩
        · split
          · exact ZoneRecord.bound_eq_max record law.level.preGrace_le
          · exact on
        · rw [before]
          exact ZoneRecord.bound_graceLevel record _
      · rw [rest, from_d, inheritFrom_vacant (mt (some_iff _).1 none) fun grace => graceless ((some_iff _).1 grace)]
        exact ⟨rfl, rfl, rfl, rfl, rfl, rfl⟩
    · have same : c = (s.inherited z).withReadings [] := congrArg (s.inherited z).withReadings empty
      rw [same, ZoneState.withReadings_nil noStatus]
      exact ⟨rfl, rfl, rfl, rfl⟩
    · have same : c = _ := (s.inherited z).withReadings_of_some between some
      rw [same]
      exact ⟨rfl, rfl, rfl, rfl⟩
    · rw [rest]
      exact ⟨complete, unreported, thawed, quiet⟩

end Sys2Proof.Machine
end

/-! # The start of a cutover, its walk and its abort (R146 to R149, R154) -/

section
namespace Sys2Proof.Machine

section
variable {s t u v : State}

/-! ## The sweep at the start of a cutover -/

theorem nextZone_none_of_imp {p q : Nat → Bool} {after : Nat} (narrows : ∀ y, q y = true → p y = true)
    (none : (nextZone p after).isSome ≠ true) : (nextZone q after).isSome ≠ true := by
  rw [ne_eq, Option.not_isSome_iff_eq_none, nextZone_eq_none] at none ⊢
  intro y low high above
  exact Bool.eq_false_of_not_eq_true fun holds => Bool.false_ne_true ((none y low high above).symm.trans (narrows y holds))

/-- State `v` is in CUTTING with `u`, under the same plan and at the same place of the sweep, with no more zones to refresh. -/
structure State.SweepsLess (u v : State) : Prop where
  cutting : u.staging = .cutting
  cutting' : v.staging = .cutting
  active : v.active = u.active
  sweep : v.sweep = u.sweep
  refreshes : ∀ y, v.needsRefresh y = true → u.needsRefresh y = true

/-- A sweep settled before some refreshes fall away is settled as one whose refreshes fell away at once. -/
theorem State.SweepsLess.settledPhase (h : u.SweepsLess v) (p : SweepPhase) :
    settledPhase v (settledPhase u p) = settledPhase v p := by
  obtain ⟨cutting, cutting', active, -, refreshes⟩ := h
  have refresh (after : Nat) : Machine.settledPhase v (settleRefresh u after) = settleRefresh v after := by
    by_cases left : (nextZone u.needsRefresh after).isSome = true
    · rw [settleRefresh, if_pos left]; rfl
    · rw [settleRefresh, if_neg left, settleRefresh, if_neg (nextZone_none_of_imp refreshes left)]; rfl
  have shadow (after : Nat) : Machine.settledPhase v (settleShadow u after) = settleShadow v after := by
    rw [settleShadow, if_neg (by simp [cutting]), settleShadow, if_neg (by simp [cutting'])]
    exact refresh 0
  cases p with
  | idle => rfl
  | starting => rfl
  | presence => rfl
  | temperatures after =>
    have same : (fun z => (v.record z).present) = fun z => (u.record z).present := by
      funext z
      rw [State.record, State.record, active]
    show Machine.settledPhase v (settleTemperatures u after) = settleTemperatures v after
    by_cases left : (nextZone (fun z => (u.record z).present) after).isSome = true
    · rw [settleTemperatures, if_pos left]; rfl
    · rw [settleTemperatures, if_neg left, settleTemperatures, same, if_neg left]
      exact shadow 0
  | shadow after => exact shadow after
  | refresh after => exact refresh after

/-- The sweep state at the end of a sweep in CUTTING, when none is deferred. -/
def Sweep.ended (w : Sweep) : Sweep :=
  if w.waiting = 0 then { w with phase := .idle } else { w with phase := .idle, waiting := w.waiting - 1, deferred := true }

theorem endSweep_eq_ended (cutting : s.staging = .cutting) (undeferred : s.sweep.deferred = false) :
    endSweep s = { s with sweep := s.sweep.ended } := by
  rw [endSweep, Sweep.ended]
  split
  · rfl
  · rw [deferSweep, if_neg (by simp [undeferred])]

theorem Sweep.ended_phase (w : Sweep) : w.ended.phase = .idle := by
  rw [ended]
  split <;> rfl

/-- The settling of a sweep in CUTTING reports nothing when no sweep is deferred. -/
theorem sweepTo_of_undeferred (cutting : s.staging = .cutting) (undeferred : s.sweep.deferred = false) (p : SweepPhase) :
    sweepTo p s = { s with sweep := (sweepTo p s).sweep } := by
  rw [sweepTo, endSweep_eq_ended cutting undeferred]
  split <;> rfl

theorem settleSweep_of_undeferred (cutting : s.staging = .cutting) (undeferred : s.sweep.deferred = false) :
    settleSweep s = { s with sweep := (settleSweep s).sweep } := by
  rw [settleSweep]
  split
  · rfl
  · exact sweepTo_of_undeferred cutting undeferred _

theorem sweepTo_rephased (w : Sweep) (p q : SweepPhase) (undeferred : w.deferred = false) (cutting : s.staging = .cutting) :
    sweepTo p { s with sweep := { w with phase := q } } = sweepTo p { s with sweep := w } := by
  have same : settledPhase { s with sweep := { w with phase := q } } p = settledPhase { s with sweep := w } p := by
    cases p <;> rfl
  rw [sweepTo, sweepTo, same, endSweep_eq_ended (s := { s with sweep := w }) cutting undeferred,
    endSweep_eq_ended (s := { s with sweep := { w with phase := q } }) cutting undeferred]
  rfl

theorem State.SweepsLess.settleSweep (h : u.SweepsLess v) (undeferred : u.sweep.deferred = false) :
    Machine.settleSweep { v with sweep := (Machine.settleSweep u).sweep } = Machine.settleSweep v := by
  have settled := h.settledPhase u.sweep.phase
  obtain ⟨cutting, cutting', -, sweep, -⟩ := h
  have undeferred' : v.sweep.deferred = false := by rwa [sweep]
  by_cases idle : u.sweep.phase = .idle
  · rw [Machine.settleSweep, Machine.settleSweep, Machine.settleSweep, if_pos idle, ← sweep]
  · have idle' : v.sweep.phase ≠ .idle := by rwa [sweep]
    have second : Machine.settleSweep v = sweepTo u.sweep.phase v := by rw [Machine.settleSweep, if_neg idle', sweep]
    have first : Machine.settleSweep u = sweepTo u.sweep.phase u := if_neg idle
    rw [second, first]
    by_cases ends : Machine.settledPhase u u.sweep.phase = .idle
    · rw [ends] at settled
      have none : Machine.settledPhase v u.sweep.phase = .idle := settled.symm
      have ended : sweepTo u.sweep.phase u = { u with sweep := u.sweep.ended } :=
        (if_pos ends).trans (endSweep_eq_ended cutting undeferred)
      rw [ended, sweepTo, if_pos none, endSweep_eq_ended cutting' undeferred', sweep]
      exact if_pos u.sweep.ended_phase
    · have goes : sweepTo u.sweep.phase u = { u with sweep := { u.sweep with phase := Machine.settledPhase u u.sweep.phase } } :=
        if_neg ends
      rw [goes]
      have rephased := sweepTo_rephased u.sweep (Machine.settledPhase u u.sweep.phase) (Machine.settledPhase u u.sweep.phase) undeferred cutting'
      have whole : ({ v with sweep := u.sweep } : State) = v := by rw [← sweep]
      rw [whole] at rephased
      exact ((if_neg ends).trans rephased).trans (sweepTo_congr settled)

/-! ## The start of a cutover (R146, R147) -/

theorem acceptCutover_eq (undeferred : s.sweep.deferred = false) (revert : Bool) :
    acceptCutover revert s = settleSweep (s.cut revert) := by
  have frame : leaveTo .cutting s = { s.left .cutting with sweep := (leaveTo .cutting s).sweep } := by
    by_cases rehearses : s.staging = .rehearsing
    · rw [leaveTo_eq_of_rehearsing _ rehearses]
      exact settleSweep_of_undeferred rfl undeferred
    · rw [leaveTo_eq_of_not_rehearsing _ rehearses, State.left, State.engineLeft, if_neg rehearses, if_neg rehearses]
  have cut : acceptCutover revert s = settleSweep { s.cut revert with sweep := (leaveTo .cutting s).sweep } := by
    generalize (leaveTo .cutting s).sweep = w at frame
    rw [acceptCutover, frame]
    rfl
  rw [cut]
  by_cases rehearses : s.staging = .rehearsing
  · rw [leaveTo_eq_of_rehearsing _ rehearses]
    have less : (s.left .cutting).SweepsLess (s.cut revert) := ⟨rfl, rfl, rfl, rfl, fun y needs => by
      rw [State.needsRefresh_iff] at needs ⊢
      obtain ⟨present, incomplete, thawed⟩ := needs
      have zone : (s.cut revert).zone y = _ := freeze_zone s y
      rw [zone] at incomplete thawed
      split at incomplete
      · next frozen => simp [frozen] at thawed
      · next free =>
        rw [if_neg free] at thawed
        exact ⟨present, incomplete, thawed⟩⟩
    exact less.settleSweep undeferred
  · rw [leaveTo_sweep_of_not_rehearsing _ rehearses]
    rfl

/-- What an accepted CUTOVER leaves. -/
theorem acceptCutover_effect (h : s.Law) (free : s.staging ≠ .cutting) (revert : Bool) (result : ValidationResult) :
    let u := acceptCutover revert { s with slot := none, result := result }
    u.staging = .cutting ∧ u.result = result ∧ u.engine = { s.engineLeft with gateOpen := false }
      ∧ u.shadow = Vector.replicate 255 .idle
      ∧ (∀ z, u.zone z = { s.zone z with frozen := (s.record z).present && !pinned s.active.windows z })
      ∧ u.walk = { phase := .waiting, cursor := 0, revert := revert, computed := [], held := [] }
      ∧ u =
        { s with
          slot := none, staging := u.staging, result := u.result, shadow := u.shadow, engine := u.engine,
          zones := u.zones, walk := u.walk, sweep := u.sweep }
      ∧ ({ u with sweep := s.sweep } : State).SweepGoesOn u := by
  intro u
  obtain ⟨before, -⟩ := h.cutover
  obtain ⟨-, -, undeferred, thawed⟩ := before free
  have eq : u = settleSweep (({ s with slot := none, result := result } : State).cut revert) :=
    acceptCutover_eq (s := { s with slot := none, result := result }) undeferred revert
  have frame := settleSweep_of_undeferred (s := ({ s with slot := none, result := result } : State).cut revert) rfl undeferred
  have goes := settleSweep_goesOn (({ s with slot := none, result := result } : State).cut revert)
  rw [← eq] at frame goes
  have back : ({ u with sweep := s.sweep } : State) = ({ s with slot := none, result := result } : State).cut revert := by
    generalize u.sweep = w at frame
    rw [frame]; rfl
  refine ⟨by rw [frame]; rfl, by rw [frame]; rfl, by rw [frame]; rfl, ?_, fun z => ?_, by rw [frame]; rfl, ?_, ?_⟩
  · rw [frame]; exact h.left_shadow .cutting
  · have zone : u.zone z = nth (freeze { s with slot := none, result := result }) .idle z := by rw [frame]; rfl
    rw [zone]
    refine (freeze_zone _ z).trans ?_
    split
    · next frozen => exact congrArg (fun b => { s.zone z with frozen := b }) frozen.symm
    · next kept =>
      have same : (s.zone z).frozen = ((s.record z).present && !pinned s.active.windows z) :=
        (thawed z).trans (Bool.eq_false_of_not_eq_true kept).symm
      rw [← same]; rfl
  · generalize u.sweep = w at frame
    rw [frame]; rfl
  · rw [back]; exact goes

theorem State.walks_iff (s : State) (z : Nat) :
    s.walks z = true ↔ (s.stagedRecord z).present = true ∧ pinned s.active.windows z = false := by
  rw [State.walks, Bool.and_eq_true, Bool.not_eq_true']

/-- The next zone the walk visits. -/
theorem State.nextVisit (s : State) {after z : Nat} (above : after < z)
    (visits : (s.stagedRecord z).present = true ∧ pinned s.active.windows z = false)
    (between : ∀ y, after < y → y < z → ¬((s.stagedRecord y).present = true ∧ pinned s.active.windows y = false)) :
    nextZone s.walks after = some z := by
  have walks := (s.walks_iff z).2 visits
  obtain ⟨-, high⟩ := State.walks_inside walks
  exact nextZone_eq_some.2 ⟨high, above, walks, fun y low below =>
    Bool.eq_false_of_not_eq_true fun holds => between y low below ((s.walks_iff y).1 holds)⟩

theorem cutover_of_passing (retained : s.staging = .retained) (idle : s.store.writing = false) (passes : pinTest s.active s.staged = none) :
    cutover s = accept false (acceptCutover true { s with result := revertResult none }) := by
  have free : s.writing ≠ true := fun writing => Bool.false_ne_true (idle.symm.trans writing)
  rw [cutover, if_neg (by simp [retained]), if_neg (by simp [retained]), if_neg free, if_pos retained, passes]

theorem cutover_of_failing (retained : s.staging = .retained) (idle : s.store.writing = false) {z : Nat}
    (fails : pinTest s.active s.staged = some z) :
    cutover s =
      if s.maint then accept false (acceptCutover true { s with result := revertResult (some z) })
      else { state := s, result := .invalid, data := [byte Check.pinConflict.code] ++ twoBytes z } := by
  have free : s.writing ≠ true := fun writing => Bool.false_ne_true (idle.symm.trans writing)
  rw [cutover, if_neg (by simp [retained]), if_neg (by simp [retained]), if_neg free, if_pos retained, fails]

theorem execWalkBegin_due (running : s.resetLow = false) (cutting : s.staging = .cutting) (waiting : s.walk.phase = .waiting)
    (free : s.engine.current = none) {z : Nat} (first : nextZone s.walks 0 = some z) :
    exec .walkBegin s = .next { s with walk := { s.walk with phase := .stepping, cursor := z } } := by
  have due : s.walkDue = true := by simp [State.walkDue, State.running, running, cutting, waiting, free, first]
  refine congrArg Host.Outcome.next ((if_pos due).trans ?_)
  rw [first]; rfl

theorem execWalkStepCompletion_due (running : s.resetLow = false) (cutting : s.staging = .cutting) (stepping : s.walk.phase = .stepping) :
    exec .walkStepCompletion s = .next (completeStep s) :=
  congrArg Host.Outcome.next (if_pos (by simp [State.running, running, cutting, stepping]))

theorem completeStep_of_some {z : Nat} (next : nextZone s.walks s.walk.cursor = some z) :
    completeStep s =
      { s with walk := { s.walk with cursor := z, computed := (s.walk.cursor, s.computedState s.walk.cursor) :: s.walk.computed } } := by
  rw [completeStep, next]

theorem completeStep_of_none (last : nextZone s.walks s.walk.cursor = none) :
    completeStep s =
      { s with
        walk :=
          { s.walk with
            phase := .finished
            computed := (s.walk.cursor, s.computedState s.walk.cursor) :: s.walk.computed } } := by
  rw [completeStep, last]

/-- Settles O51: what is refused, what a start leaves, and the walk from zone to zone. -/
theorem cutoverStartsAndWalks : Obligations.CutoverStartsAndWalks := by
  intro s r h cutting refused
  have answers (admits : s.Admits r) (body : r.body = [13]) {v : Verdict} (decided : cutover { s with slot := none } = v) :=
    exec_admitted (execCutover.eq_1 s) admits body (by decide) (by rw [body]; rfl) decided
  have accepted (admits : s.Admits r) (body : r.body = [13]) {revert : Bool} {result : ValidationResult} (free : s.staging ≠ .cutting)
      (decided : cutover { s with slot := none } = accept false (acceptCutover revert { s with slot := none, result := result })) :
      cutting revert result :=
    ⟨_, _, answers admits body decided, rfl, acceptCutover_effect h free revert result⟩
  refine ⟨fun admits body => ⟨fun stands => ?_, fun early => ?_, fun early early' writing => ?_⟩,
    fun admits body idle => ⟨fun staging => ?_, fun retained passes => ?_, fun z retained fails => ?_⟩,
    fun running stands => ?_⟩
  · exact answers admits body (if_pos stands)
  · exact answers admits body ((if_neg (by rintro (stands : s.staging = .cutting); simp [stands] at early)).trans (if_pos early))
  · by_cases stands : s.staging = .cutting
    · exact answers admits body (if_pos stands)
    · exact answers admits body ((if_neg stands).trans ((if_neg (not_or.2 ⟨early, early'⟩)).trans (if_pos writing)))
  · have free : s.staging ≠ .cutting := by rintro stands; simp [stands] at staging
    have past : ¬(s.staging = .empty ∨ s.staging = .editing) := by rintro (k | k) <;> simp [k] at staging
    have unreverted : s.staging ≠ .retained := by rintro k; simp [k] at staging
    exact accepted admits body free ((if_neg free).trans ((if_neg past).trans
      ((if_neg fun writing => Bool.false_ne_true (idle.symm.trans writing)).trans (if_neg unreverted))))
  · exact accepted admits body (by simp [retained]) (cutover_of_passing (s := { s with slot := none }) retained idle passes)
  · have decided := cutover_of_failing (s := { s with slot := none }) retained idle fails
    split
    · next maint => exact accepted admits body (by simp [retained]) (decided.trans (if_pos maint))
    · next unmaintained => exact answers admits body (decided.trans (if_neg unmaintained))
  · intro visits
    refine ⟨fun z waiting free visited first => ?_, fun stepping => ⟨fun z above visited between => ?_, fun last => ?_⟩⟩
    · have pos : 0 < z := (State.walks_inside ((s.walks_iff z).2 visited)).1
      exact execWalkBegin_due running stands waiting free (s.nextVisit pos visited fun y _ below => first y below)
    · rw [execWalkStepCompletion_due running stands stepping, completeStep_of_some (s.nextVisit above visited between)]
    · have none : nextZone s.walks s.walk.cursor = none := nextZone_eq_none.2 fun y _ _ above =>
        Bool.eq_false_of_not_eq_true fun holds => last y above ((s.walks_iff y).1 holds)
      rw [execWalkStepCompletion_due running stands stepping, completeStep_of_none none]

end
end Sys2Proof.Machine
end

/-! # Held frames, and the abort of a cutover (R148, R154, R168) -/

section
namespace Sys2Proof.Machine

section
variable {s t u : State}

/-! ## What deliveries change (R52, R53) -/

/-- What deliveries of frames to station queues may change. -/
structure State.Delivers (s t : State) : Prop where
  frame : t = { s with segments := t.segments, notices := t.notices, uplink := t.uplink }
  segment : ∀ n, t.segment n = { s.segment n with stations := (t.segment n).stations }
  notice : ∀ c, c ≠ .undeliverable → t.notice c = s.notice c
  uplink : t.uplink = { s.uplink with notices := t.uplink.notices }

theorem State.Delivers.refl (s : State) : s.Delivers s := ⟨rfl, fun _ => rfl, fun _ _ => rfl, rfl⟩

theorem State.Delivers.trans (h : s.Delivers t) (k : t.Delivers u) : s.Delivers u where
  frame := by rw [k.frame, h.frame]
  segment n := by rw [k.segment, h.segment]
  notice c ne := (k.notice c ne).trans (h.notice c ne)
  uplink := by rw [k.uplink, h.uplink]

theorem State.Delivers.deliver (s : State) (d : FieldDown) : s.Delivers (deliver s d) := by
  obtain ⟨n, -, -, eq⟩ | eq := deliver_cases s d
  · rw [eq]
    refine ⟨rfl, fun m => ?_, fun _ _ => rfl, rfl⟩
    rw [State.segment_setSegment]
    split
    · next same => obtain ⟨rfl, -⟩ := same; rfl
    · rfl
  · rw [eq]
    exact ⟨rfl, fun _ => rfl, fun c ne => (notice_report ..).trans (if_neg ne), report_uplink ..⟩

theorem State.Delivers.foldl (s : State) (held : List FieldDown) : s.Delivers (held.foldl Machine.deliver s) := by
  induction held generalizing s with
  | nil => exact .refl s
  | cons d held ih => exact (State.Delivers.deliver s d).trans (ih _)

/-! ## The abort of a walk (R154) -/

theorem State.relianceLost_iff (s : State) :
    s.relianceLost = true ↔ s.walk.revert = false ∧ s.result.reliance = true ∧ s.maint = false := by
  simp [State.relianceLost, and_assoc]

/-- The reports of an abort: STAGE_REJECTED when a reliance was lost, then CUTOVER_ABORTED. -/
def State.reportAbort (lost : Bool) (s : State) : State := report .cutoverAborted none (if lost then report .stageRejected none s else s)

theorem State.reportAbort_frame (lost : Bool) (s : State) :
    s.reportAbort lost = { s with notices := (s.reportAbort lost).notices, uplink := (s.reportAbort lost).uplink } := by
  cases lost with
  | true => rfl
  | false => rfl

theorem State.reportAbort_notice (lost : Bool) (s : State) (c : Condition) :
    (s.reportAbort lost).notice c =
      if c = .cutoverAborted ∨ c = .stageRejected ∧ lost = true then (s.notice c).reported none else s.notice c := by
  have before : (if lost then report .stageRejected none s else s).notice c =
      if c = .stageRejected ∧ lost = true then (s.notice c).reported none else s.notice c := by
    cases lost with
    | true =>
      refine (notice_report ..).trans ?_
      by_cases same : c = .stageRejected
      · rw [if_pos same, if_pos ⟨same, rfl⟩, same]
      · rw [if_neg same, if_neg fun k => same k.1]
    | false => exact (if_neg fun k => Bool.false_ne_true k.2).symm
  rw [reportAbort, notice_report]
  by_cases aborts : c = .cutoverAborted
  · subst aborts
    rw [before]
    simp
  · rw [if_neg aborts, before]
    simp only [aborts, false_or]

theorem State.reportAbort_uplink (lost : Bool) (s : State) :
    (s.reportAbort lost).uplink = { s.uplink with notices := (s.reportAbort lost).uplink.notices } := by
  cases lost with
  | true =>
    have first := report_uplink .stageRejected none s
    have second := report_uplink .cutoverAborted none (report .stageRejected none s)
    rw [first] at second
    exact second
  | false => exact report_uplink ..

theorem stopWalk_eq (s : State) : stopWalk s = s.stopped.reportAbort s.relianceLost := by
  by_cases lost : s.relianceLost = true
  · have all := s.relianceLost_iff.1 lost
    have ⟨revert, _⟩ := all
    rw [stopWalk, if_pos all, State.reportAbort, if_pos lost, State.stopped]
    simp only [withdraw, leaveTo, revert, lost, Bool.false_eq_true, if_false, if_true, reduceCtorEq]
  · rw [stopWalk, if_neg (lost ∘ s.relianceLost_iff.2), State.reportAbort, if_neg lost, State.stopped, if_neg lost, if_neg lost]

/-- The state in which the reports and deliveries of an abort are made. -/
def State.aborted (s : State) : State := { s.stopped with walk := Walk.none }

/-- The state with the reports of an abort made. -/
def State.abortReported (s : State) : State := s.aborted.reportAbort s.relianceLost

theorem State.abortReported_frame (s : State) :
    s.abortReported = { s.aborted with notices := s.abortReported.notices, uplink := s.abortReported.uplink } :=
  State.reportAbort_frame _ _

theorem State.abortReported_uplink (s : State) : s.abortReported.uplink = { s.uplink with notices := s.abortReported.uplink.notices } :=
  State.reportAbort_uplink _ _

theorem abortWalk_eq (s : State) :
    abortWalk s =
      { s.walk.held.foldl deliver s.abortReported with engine := { s.engine with gateOpen := true }, sweep := s.sweep.released } := by
  have released : releaseHeld (stopWalk s) = s.walk.held.foldl deliver s.abortReported := by
    rw [releaseHeld, stopWalk_eq, State.abortReported]
    cases s.relianceLost with
    | true => rfl
    | false => rfl
  have frame := (State.Delivers.foldl s.abortReported s.walk.held).frame
  have engine : (s.walk.held.foldl deliver s.abortReported).engine = s.engine :=
    (congrArg State.engine frame :).trans (congrArg State.engine s.abortReported_frame :)
  have sweep : (s.walk.held.foldl deliver s.abortReported).sweep = s.sweep :=
    (congrArg State.sweep frame :).trans (congrArg State.sweep s.abortReported_frame :)
  rw [abortWalk, released, releaseSweep_eq]
  dsimp only
  rw [engine, sweep]

/-- What an abort leaves as the stopped walk has it. -/
theorem abortWalk_stopped (s : State) :
    let u := abortWalk s
    u.staging = s.aborted.staging ∧ u.result = s.aborted.result ∧ u.walk = Walk.none ∧ u.zones = s.aborted.zones := by
  rw [abortWalk_eq, (State.Delivers.foldl s.abortReported s.walk.held).frame, s.abortReported_frame]
  exact ⟨rfl, rfl, rfl, rfl⟩

theorem abortWalk_notice (s : State) {c : Condition} (ne : c ≠ .undeliverable) :
    (abortWalk s).notice c =
      if c = .cutoverAborted ∨ c = .stageRejected ∧ s.relianceLost = true then (s.notice c).reported none else s.notice c := by
  rw [abortWalk_eq]
  exact ((State.Delivers.foldl s.abortReported s.walk.held).notice c ne).trans (s.aborted.reportAbort_notice s.relianceLost c)

/-- Settles O54: the stopped walk, its reports, the deliveries, the gate and the deferred sweep. -/
theorem abortReturnsTheOldPlan : Obligations.AbortReturnsTheOldPlan := by
  intro s r h admits body
  have answers {v : Verdict} (decided : (if s.staging = .cutting then accept false (abortWalk { s with slot := none })
      else refuse .badState { s with slot := none }) = v) :=
    exec_admitted (execAbortCutover.eq_1 s) admits body (by decide) (by rw [body]; rfl) decided
  refine ⟨fun free => answers (if_neg free), fun cutting => ?_⟩
  intro lost
  have lost_iff : ({ s with slot := none } : State).relianceLost = true ↔ lost := State.relianceLost_iff _
  have eq := abortWalk_eq { s with slot := none }
  obtain ⟨staging, result, walk, zones⟩ := abortWalk_stopped { s with slot := none }
  have delivers := State.Delivers.foldl ({ s with slot := none } : State).abortReported s.walk.held
  refine ⟨_, abortWalk { s with slot := none }, answers (if_pos cutting), rfl, ?_, ?_, walk, ?_, fun z => ?_, ?_, ?_, ?_, ?_, fun n => ?_, ?_⟩
  · rw [staging]
    simp only [← lost_iff]; rfl
  · rw [result]
    simp only [← lost_iff]; rfl
  · rw [eq]
  · show nth (abortWalk _).zones .idle z = _
    rw [zones]
    exact unfreeze_zone _ z
  · exact (abortWalk_notice _ (by simp)).trans (if_pos (.inl rfl))
  · refine (abortWalk_notice _ (by simp)).trans ?_
    simp only [reduceCtorEq, false_or, true_and, lost_iff]
    rfl
  · rw [eq]; rfl
  · intro stopped rejected
    have base : stopped = ({ s with slot := none } : State).aborted := by
      simp only [stopped, staging, result, zones]
      rfl
    have reports : report .cutoverAborted none rejected = ({ s with slot := none } : State).abortReported := by
      simp only [rejected, State.abortReported, State.reportAbort, base, lost_iff]
    rw [reports]
    simp only [eq]
  · rw [eq]
    refine (delivers.segment n).trans ?_
    rw [State.abortReported_frame]
    rfl
  · rw [eq]
    refine delivers.uplink.trans ?_
    rw [State.abortReported_uplink]

end
end Sys2Proof.Machine
end

/-! # Zone actions, the flush and the clears (R74 to R77, R104, R173) -/

section
namespace Sys2Proof.Machine

section
variable {s : State} {r : Request} {z v : Nat}

/-! ## What refuses a zone action (R74) -/

theorem zoneRefusal_of_cutting (cutting : s.staging = .cutting) (z : Nat) : zoneRefusal z s = some .busy := if_pos cutting

theorem zoneRefusal_of_absent (free : s.staging ≠ .cutting) (absent : z = 0 ∨ 255 < z ∨ (s.record z).present = false) :
    zoneRefusal z s = some .badIndex := (if_neg free).trans (if_pos absent)

theorem zoneRefusal_of_present (free : s.staging ≠ .cutting) (low : 1 ≤ z) (high : z ≤ 255) (present : (s.record z).present = true) :
    zoneRefusal z s = none :=
  (if_neg free).trans (if_neg (by simp only [present, Bool.true_eq_false, or_false]; omega))

theorem zoneSetLevel_refused {x : Result} (refused : zoneRefusal z s = some x) (v : Nat) : zoneSetLevel z v s = refuse x s := by
  rw [zoneSetLevel, refused]

theorem zoneForce_refused {x : Result} (refused : zoneRefusal z s = some x) (v : Nat) : zoneForce z v s = refuse x s := by
  rw [zoneForce, refused]

theorem zoneSetDamper_refused {x : Result} (refused : zoneRefusal z s = some x) (v : Nat) : zoneSetDamper z v s = refuse x s := by
  rw [zoneSetDamper, refused]

/-! ## The requests -/

theorem execZoneSetLevel_answer (admits : s.Admits r) (hz : z ≤ 65535) (hv : v ≤ 65535)
    (body : r.body = byte 15 :: [byte (z / 256), byte z, byte (v / 256), byte v]) {x : Verdict}
    (decided : zoneSetLevel z v { s with slot := none } = x) :
    exec .zoneSetLevel s = .next (x.state.answer r 15 x.result x.data) :=
  exec_admitted (execZoneSetLevel.eq_1 s) admits body (by decide) (by rw [body]; rfl)
    ((congrArg₂ (zoneSetLevel · · { s with slot := none }) (number_twoBytes (by omega)) (number_twoBytes (by omega))).trans decided)

theorem execZoneForce_answer (admits : s.Admits r) (hz : z ≤ 65535) {b : Byte}
    (body : r.body = byte 16 :: [byte (z / 256), byte z, b]) {x : Verdict}
    (decided : zoneForce z b.toNat { s with slot := none } = x) :
    exec .zoneForce s = .next (x.state.answer r 16 x.result x.data) :=
  exec_admitted (execZoneForce.eq_1 s) admits body (by decide) (by rw [body]; rfl)
    ((congrArg (zoneForce · b.toNat { s with slot := none }) (number_twoBytes (by omega))).trans decided)

theorem execZoneSetDamper_answer (admits : s.Admits r) (hz : z ≤ 65535) (hv : v ≤ 65535)
    (body : r.body = byte 17 :: [byte (z / 256), byte z, byte (v / 256), byte v]) {x : Verdict}
    (decided : zoneSetDamper z v { s with slot := none } = x) :
    exec .zoneSetDamper s = .next (x.state.answer r 17 x.result x.data) :=
  exec_admitted (execZoneSetDamper.eq_1 s) admits body (by decide) (by rw [body]; rfl)
    ((congrArg₂ (zoneSetDamper · · { s with slot := none }) (number_twoBytes (by omega)) (number_twoBytes (by omega))).trans decided)

/-! ## What a zone action leaves (R70, R75, R76) -/

theorem zoneAction_eq (low : 1 ≤ z) (high : z ≤ 255) (after : ZoneState) (s : State) :
    zoneAction z after s =
      let issued := levelIssue z (s.record z).normalFade (s.setZone z after)
      if after.occupancy ≠ (s.zone z).occupancy ∧ (s.record z).reportOnChange = true then queueReport z issued else issued := by
  refine (reportOnChange_eq low high (.levelIssue z _ _)).trans ?_
  by_cases same : after.occupancy = (s.zone z).occupancy
  · rw [if_pos (.inl same), if_neg fun k => k.1 same]; rfl
  · cases reports : (s.record z).reportOnChange with
    | true => rw [if_neg (by simp [same]), if_pos ⟨same, rfl⟩]; rfl
    | false => rw [if_pos (.inr rfl), if_neg (by simp)]; rfl

theorem ZoneRecord.bound_clampLevel {q : ZoneRecord} (record : q.InRange) (v : Nat) : q.bound (q.clampLevel v) = q.clampLevel v := by
  have := record.minOn_le
  simp only [bound, clampLevel]
  split <;> split <;> omega

theorem ZoneState.setLevel_eq {x : ZoneState} {q : ZoneRecord} (record : q.InRange) (h : x.LevelLaw q) (v : Nat) :
    let level := q.clampLevel v
    x.setLevel q level =
      if x.occupancy = .occupied then { x with level := level }
      else if x.occupancy = .vacant ∧ level = 0 then x
      else { x with occupancy := .occupied, hold := q.holdTime * 60, level := level, expiring := false } := by
  have bound := ZoneRecord.bound_clampLevel record v
  obtain ⟨dark, -⟩ := h
  cases occupancy : x.occupancy with
  | vacant =>
    obtain ⟨level, -⟩ := dark occupancy
    by_cases zero : q.clampLevel v = 0
    · simp only [setLevel, occupancy, zero, withLevel, ZoneRecord.bound, if_true, reduceCtorEq, if_false, and_self]
      rw [← level, ← occupancy]
    · simp [setLevel, occupancy, zero, withLevel, bound, occupy, restart, ZoneRecord.fullHold]
  | occupied => simp [setLevel, occupancy, withLevel, bound]
  | grace => simp [setLevel, occupancy, withLevel, bound, occupy, restart, ZoneRecord.fullHold]

theorem ZoneState.forceVacant_eq {x : ZoneState} {q : ZoneRecord} (h : x.LevelLaw q) (timed : x.TimerLaw) :
    x.forceVacant = { x with occupancy := .vacant, level := 0, offset := 0, expiring := false } := by
  obtain ⟨dark, -⟩ := h
  obtain ⟨-, -, due⟩ := timed
  cases occupancy : x.occupancy with
  | vacant =>
    obtain ⟨level, offset⟩ := dark occupancy
    have quiet : x.expiring = false := Bool.eq_false_of_not_eq_true fun expires => by simpa [occupancy] using due expires
    simp only [forceVacant, occupancy]
    rw [← occupancy, ← level, ← offset, ← quiet]
  | occupied => simp [forceVacant, occupancy, vacate]
  | grace => simp [forceVacant, occupancy, vacate]

/-- Settles O55: each action clamps, writes the zone's record and issues its level or position. -/
theorem zoneActionsActAsAsked : Obligations.ZoneActionsActAsAsked := by
  intro s r z v h admits hz hv t two record old acted
  refine ⟨fun c mem body => ?_, fun free low high present => ?_⟩
  · have refusing (x : Result) (refused : zoneRefusal z t = some x) : exec c.1 s = .next (t.answer r c.2.1 x []) := by
      simp only [List.mem_cons, List.not_mem_nil, or_false] at mem
      obtain rfl | rfl | rfl := mem
      · exact execZoneSetLevel_answer admits hz hv body (zoneSetLevel_refused refused v)
      · exact execZoneForce_answer admits hz body (zoneForce_refused refused _)
      · exact execZoneSetDamper_answer admits hz hv body (zoneSetDamper_refused refused v)
    exact ⟨fun cutting => refusing _ (zoneRefusal_of_cutting cutting z), fun free absent => refusing _ (zoneRefusal_of_absent free absent)⟩
  · have passes : zoneRefusal z t = none := zoneRefusal_of_present free low high present
    have inRange : record.InRange := h.record_inRange z
    have levels : record.minOn ≤ record.onLevel := h.active_valid.minOn_le_onLevel present
    have law := (h.zone_sound z).level
    have timed := h.timed z
    have acts {command : Instr} {code : Nat} {clamped : Bool} {result : Result} {after after' : ZoneState} (same : after = after')
        (corrected : (if clamped then .clamped else .ok) = result)
        (answered : exec command s =
          .next ((accept clamped (zoneAction z after t)).state.answer r code (accept clamped (zoneAction z after t)).result [])) :
        acted command code result after' := by
      subst same corrected
      refine answered.trans ?_
      rw [accept, zoneAction_eq low high]
      rfl
    refine ⟨?_, fun body => ?_, fun body => ?_, fun least most body => ?_, fun body => ?_⟩
    · intro body level
      have decided : zoneSetLevel z v t = accept (level != v) (zoneAction z (old.setLevel record level) t) := by
        rw [zoneSetLevel, passes]
        rfl
      refine acts (ZoneState.setLevel_eq inRange law v) ?_ (execZoneSetLevel_answer admits hz hv body decided)
      by_cases same : level = v
      · simp [same]
      · simp [same, level]
    · have decided : zoneForce z 1 t = accept false (zoneAction z (old.forceOccupied record) t) := by
        rw [zoneForce, passes]
        rfl
      exact acts (ZoneState.onPresence_eq_seen inRange levels law) rfl (execZoneForce_answer admits hz body decided)
    · have decided : zoneForce z 0 t = accept false (zoneAction z old.forceVacant t) := by
        rw [zoneForce, passes]
        rfl
      exact acts (ZoneState.forceVacant_eq law timed) rfl (execZoneForce_answer admits hz body decided)
    · have value : (byte v).toNat = v := byte_toNat_of_lt (by omega)
      have decided : zoneForce z (byte v).toNat t = refuse .refused t := by
        rw [value, zoneForce, passes]
        exact (if_neg (by omega)).trans (if_neg (by omega))
      exact execZoneForce_answer admits hz body decided
    · have decided : zoneSetDamper z v t =
          accept (decide (1000 < v)) (damperIssue z (t.setZone z { old with damper := some (min v 1000) })) := by
        rw [zoneSetDamper, passes]
        rfl
      refine (execZoneSetDamper_answer admits hz hv body decided).trans ?_
      by_cases fits : v ≤ 1000
      · simp [accept, fits, not_lt.2 fits]
      · simp [accept, fits, not_le.1 fits]

/-! ## The flush and the clears (R104, R173) -/

theorem notice_mapped (s : State) (f : Nat → NoticeState → NoticeState) (c : Condition) :
    ({ s with notices := mapNumbered s.notices f } : State).notice c = f (c.code + 1) (s.notice c) := by
  have := c.code_lt
  exact nth_mapNumbered s.notices f .clear .clear (by omega) (by omega)

/-- Settles O57: the point cache and the conditions' records, each written alone. -/
theorem flushAndClearsDoOnlyThat : Obligations.FlushAndClearsDoOnlyThat := by
  intro s r admits t
  refine ⟨fun body => ?_, fun codes body => ?_, fun body => ?_⟩
  · have answers {v : Verdict} (decided : (if s.staging = .cutting then refuse .busy t else accept false { t with cache := [] }) = v) :=
      exec_admitted (execFlushReadings.eq_1 s) admits body (by decide) (by rw [body]; rfl) decided
    exact ⟨fun cutting => answers (if_pos cutting), fun free => answers (if_neg free)⟩
  · have answers {v : Verdict} (decided : clearPending (codes.map BitVec.toNat) t = v) :=
      exec_admitted (execClearPending.eq_1 s) admits body (by decide) (by rw [body]; rfl) decided
    refine ⟨fun bad => ?_, fun least most named => ?_⟩
    · have bad' : codes.map BitVec.toNat = [] ∨ 21 < (codes.map BitVec.toNat).length
          ∨ (codes.map BitVec.toNat).any (fun c => decide (20 < c)) = true := by simpa using bad
      exact answers (if_pos bad')
    · have good : ¬(codes.map BitVec.toNat = [] ∨ 21 < (codes.map BitVec.toNat).length
          ∨ (codes.map BitVec.toNat).any (fun c => decide (20 < c)) = true) := by
        have some : codes ≠ [] := List.ne_nil_of_length_pos least
        simpa [some] using ⟨most, named⟩
      have code (c : Condition) : (c.code + 1 - 1 ∈ codes.map BitVec.toNat) ↔ byte c.code ∈ codes := by
        have small : c.code < 256 := by have := c.code_lt; omega
        rw [Nat.add_sub_cancel, List.mem_map]
        constructor
        · rintro ⟨b, mem, same⟩
          rwa [← same, byte_of_toNat]
        · exact fun mem => ⟨_, mem, byte_toNat_of_lt small⟩
      refine ⟨_, answers (if_neg good), fun c mem => ?_, fun c mem => ?_, rfl⟩
      · exact (notice_mapped t _ c).trans (if_pos ((code c).2 mem))
      · exact (notice_mapped t _ c).trans (if_neg (mem ∘ (code c).1))
  · refine ⟨_, exec_admitted (execClearOccurrences.eq_1 s) admits body (by decide) (by rw [body]; rfl) rfl, fun c pending => ?_,
      fun c clear => ?_, rfl⟩
    · exact (notice_mapped t _ c).trans (if_pos pending)
    · exact (notice_mapped t _ c).trans (if_neg fun pending => Bool.false_ne_true (clear.symm.trans pending))

end
end Sys2Proof.Machine
end

/-! # The stored settings (R14, R17, R49, R165, R182) -/

section
namespace Sys2Proof.Machine

section
variable {s t u : State} {r : Request} {n : Nat}

/-! ## A lowered silence limit (R17) -/

/-- The silence of segment `n` has reached the limit. -/
def State.Silent (s : State) (n : Nat) : Prop :=
  ∃ second, (s.segment n).lastArrival = some second ∧ s.settings.silenceLimit ≤ (s.deviceTime - second).toNat

theorem State.Silent.inside (h : s.Silent n) : 1 ≤ n ∧ n ≤ 4 := by
  obtain ⟨second, last, -⟩ := h
  by_contra out
  have reset : s.segment n = .afterReset := by
    obtain rfl | above : n = 0 ∨ 4 < n := by omega
    · rfl
    · exact nth_of_lt _ _ above
  rw [reset] at last
  cases last

theorem State.silenceDue_iff (running : s.resetLow = false) (n : Nat) :
    s.silenceDue n = true ↔ s.Silent n ∧ (s.segment n).line = .up := by
  have inside := State.Silent.inside (s := s) (n := n)
  rw [State.Silent] at inside ⊢
  cases last : (s.segment n).lastArrival with
  | none => simp [State.silenceDue, last]
  | some second =>
    have silent_iff : (∃ x, some second = some x ∧ s.settings.silenceLimit ≤ (s.deviceTime - x).toNat) ↔
        s.settings.silenceLimit ≤ (s.deviceTime - second).toNat := by simp
    rw [last, silent_iff] at inside
    simp only [State.silenceDue, State.running, running, isSegment, last, State.age, Bool.not_false, Bool.true_and, Bool.and_eq_true,
      decide_eq_true_eq, silent_iff]
    exact ⟨fun ⟨⟨up, _⟩, aged⟩ => ⟨of_decide_eq_true aged, up⟩, fun ⟨aged, up⟩ => ⟨⟨up, inside aged⟩, decide_eq_true aged⟩⟩

/-- What the segments `ns` leave that fall silent one after another. -/
structure State.Silences (ns : List Nat) (s t : State) : Prop where
  frame : t = { s with segments := t.segments, notices := t.notices, uplink := t.uplink }
  fallen : ∀ m, m ∈ ns → s.Silent m → t.segment m = { s.segment m with line := .down }
  kept : ∀ m, ¬(m ∈ ns ∧ s.Silent m) → t.segment m = s.segment m
  notice : ∀ c, c ≠ .segmentDown → t.notice c = s.notice c
  pending : (t.notice .segmentDown).pending = true ↔
    (s.notice .segmentDown).pending = true ∨ ∃ m ∈ ns, s.Silent m ∧ (s.segment m).line = .up
  uplink : t.uplink = { s.uplink with notices := t.uplink.notices }

theorem State.Silences.refl (s : State) : s.Silences [] s :=
  ⟨rfl, nofun, fun _ _ => rfl, fun _ _ => rfl, by simp, rfl⟩

theorem State.Silences.silent_iff {ns : List Nat} (h : s.Silences ns t) (m : Nat) : t.Silent m ↔ s.Silent m := by
  have last : (t.segment m).lastArrival = (s.segment m).lastArrival := by
    by_cases falls : m ∈ ns ∧ s.Silent m
    · rw [h.fallen m falls.1 falls.2]
    · rw [h.kept m falls]
  have time : t.deviceTime = s.deviceTime := (congrArg State.deviceTime h.frame :)
  have settings : t.settings = s.settings := (congrArg State.settings h.frame :)
  rw [State.Silent, State.Silent, last, time, settings]

/-- One segment more. -/
theorem State.Silences.next {ns : List Nat} (h : s.Silences ns t) (running : s.resetLow = false) (n : Nat) :
    s.Silences (ns ++ [n]) (if t.silenceDue n then fallSilent n t else t) := by
  have running' : t.resetLow = false := (congrArg State.resetLow h.frame :).trans running
  have due := (State.silenceDue_iff running' n).trans (and_congr_left' (h.silent_iff n))
  split
  · next falls =>
    obtain ⟨silent, up⟩ := due.1 falls
    obtain ⟨low, high⟩ := silent.inside
    have fresh : n ∉ ns := fun mem => by rw [h.fallen n mem silent] at up; cases up
    have before : t.segment n = s.segment n := h.kept n fun k => fresh k.1
    have same : (fallSilent n t).segment n = { s.segment n with line := .down } := by
      rw [← before]
      exact State.segment_setSegment_same t _ low high
    have others (m : Nat) (other : m ≠ n) : (fallSilent n t).segment m = t.segment m := State.segment_setSegment_other t _ other
    refine ⟨?_, fun m mem silences => ?_, fun m keeps => ?_, fun c ne => ?_, ?_, ?_⟩
    · rw [fallSilent, report_frame, State.setSegment, h.frame]
    · by_cases this : m = n
      · exact this ▸ same
      · rw [others m this]
        exact h.fallen m (by simpa [this] using mem) silences
    · have this : m ≠ n := by rintro rfl; exact keeps ⟨by simp, silent⟩
      rw [others m this]
      exact h.kept m fun k => keeps ⟨List.mem_append_left _ k.1, k.2⟩
    · exact ((notice_report ..).trans (if_neg ne)).trans (h.notice c ne)
    · have pending : ((fallSilent n t).notice .segmentDown).pending = true := by
        rw [fallSilent, notice_report, if_pos rfl]
        exact NoticeState.reported_pending _ _
      exact iff_of_true pending (.inr ⟨n, by simp, silent, before ▸ up⟩)
    · rw [fallSilent, report_uplink, State.setSegment, h.uplink]
  · next stays =>
    have none : ¬(s.Silent n ∧ (t.segment n).line = .up) := stays ∘ due.2
    have already (silences : s.Silent n) : t.segment n = { s.segment n with line := .down } := by
      by_cases mem : n ∈ ns
      · exact h.fallen n mem silences
      · have down : (t.segment n).line = .down := by
          cases line : (t.segment n).line with
          | up => exact absurd ⟨silences, line⟩ none
          | down => rfl
        have before := h.kept n fun k => mem k.1
        rw [← before, ← down]
    refine ⟨h.frame, fun m mem silences => ?_, fun m keeps => h.kept m fun k => keeps ⟨List.mem_append_left _ k.1, k.2⟩, h.notice, ?_,
      h.uplink⟩
    · obtain mem | last := List.mem_append.1 mem
      · exact h.fallen m mem silences
      · obtain rfl := List.mem_singleton.1 last
        exact already silences
    · rw [h.pending]
      refine or_congr_right ⟨fun ⟨m, mem, k⟩ => ⟨m, List.mem_append_left _ mem, k⟩, fun ⟨m, mem, silences, up⟩ => ?_⟩
      obtain mem | last := List.mem_append.1 mem
      · exact ⟨m, mem, silences, up⟩
      · obtain rfl := List.mem_singleton.1 last
        by_cases mem : m ∈ ns
        · exact ⟨m, mem, silences, up⟩
        · exact absurd ⟨silences, by rw [h.kept m fun k => mem k.1]; exact up⟩ none

theorem retimeSilence_silences (running : s.resetLow = false) : s.Silences segmentNumbers (retimeSilence s) := by
  suffices ∀ ns : List Nat, s.Silences ns (ns.foldl (fun t n => if t.silenceDue n then fallSilent n t else t) s) from this _
  intro ns
  induction ns using List.reverseRecOn with
  | nil => exact .refl s
  | append_singleton ns n ih =>
    rw [List.foldl_append]
    exact ih.next running n

/-! ## SET_PARAMETER and SET_CLOSED_FLOOR -/

theorem execSetParameter_bytes (admits : s.Admits r) {setting which high low : Byte} (body : r.body = byte 18 :: [setting, which, high, low])
    {x : Verdict} (decided : setParameter setting.toNat which.toNat (number high low) { s with slot := none } = x) :
    exec .setParameter s = .next (x.state.answer r 18 x.result x.data) :=
  exec_admitted (execSetParameter.eq_1 s) admits body (by decide) (by rw [body]; rfl) decided

theorem execSetParameter_answer (admits : s.Admits r) {setting which : Byte} {v : Nat} (hv : v ≤ 65535)
    (body : r.body = byte 18 :: [setting, which, byte (v / 256), byte v]) {x : Verdict}
    (decided : setParameter setting.toNat which.toNat v { s with slot := none } = x) :
    exec .setParameter s = .next (x.state.answer r 18 x.result x.data) :=
  execSetParameter_bytes admits body
    ((congrArg (setParameter setting.toNat which.toNat · { s with slot := none }) (number_twoBytes (by omega))).trans decided)

theorem setParameter_busy (busy : s.staging = .cutting ∨ s.store.writing = true) (setting which v : Nat) :
    setParameter setting which v s = refuse .busy s := by
  by_cases writing : s.writing = true
  · exact if_pos writing
  · exact (if_neg writing).trans (if_pos (busy.resolve_right writing))

theorem setClosedFloor_busy (busy : s.staging = .cutting ∨ s.store.writing = true) (asked : Nat) :
    setClosedFloor asked s = refuse .busy s := by
  by_cases writing : s.writing = true
  · exact if_pos writing
  · exact (if_neg writing).trans (if_pos (busy.resolve_right writing))

theorem setClosedFloor_decided (free : s.staging ≠ .cutting) (idle : s.store.writing = false) (asked : Nat) :
    setClosedFloor asked s =
      if 1 < asked then refuse .refused s
      else if asked = 0 ∧ s.maint = false then refuse .locked s
      else accept false (startWrite { s with settings := { s.settings with closedFloor := asked == 1 } }) :=
  (if_neg fun writing => Bool.false_ne_true (idle.symm.trans writing)).trans (if_neg free)

theorem setParameter_applied (free : s.staging ≠ .cutting) (idle : s.store.writing = false) {setting which v : Nat} {clamped : Bool}
    (applied : applySetting setting which v s = some (t, clamped)) :
    setParameter setting which v s = accept clamped (startWrite t) := by
  have idle' : s.writing ≠ true := fun writing => Bool.false_ne_true (idle.symm.trans writing)
  rw [setParameter, if_neg idle', if_neg free, applied]

theorem setParameter_refused (free : s.staging ≠ .cutting) (idle : s.store.writing = false) {setting which v : Nat}
    (unknown : applySetting setting which v s = none) : setParameter setting which v s = refuse .refused s := by
  have idle' : s.writing ≠ true := fun writing => Bool.false_ne_true (idle.symm.trans writing)
  rw [setParameter, if_neg idle', if_neg free, unknown]

theorem clamp_bne {a b : Nat} (proper : a ≤ b) (v : Nat) : (clamp a b v != v) = !decide (a ≤ v ∧ v ≤ b) := by
  by_cases inside : a ≤ v ∧ v ≤ b
  · simp [inside, clamp_of_mem inside.1 inside.2]
  · have moved : clamp a b v ≠ v := by rw [clamp]; omega
    simp only [inside, decide_false, Bool.not_false, bne_iff_ne]
    exact moved

theorem one_lt_eq (v : Nat) : decide (1 < v) = !decide (0 ≤ v ∧ v ≤ 1) := by
  by_cases above : 1 < v
  · simp [above]
  · simp [above, not_lt.1 above]

theorem bne_eq_decide_ne (a b : Nat) : (a != b) = decide (a ≠ b) := by
  by_cases same : a = b
  · simp [same]
  · simp [same]

theorem applySetting_enable {code : Nat} (named : code ≤ 20) (v : Nat) (s : State) :
    applySetting 7 code v s =
      some
        ({ s with settings := { s.settings with enables := put s.settings.enables (code + 1) (decide (v ≠ 0)) } },
          !decide (0 ≤ v ∧ v ≤ 1)) := by
  rw [← bne_eq_decide_ne, ← one_lt_eq]
  exact if_neg (by omega)

theorem applySetting_forced {n : Nat} (low : 1 ≤ n) (high : n ≤ 4) (v : Nat) (s : State) :
    applySetting 8 n v s =
      some
        ({ s.setSegment n ((s.segment n).forceChange (s.forcedHold n) (decide (v ≠ 0))) with
            settings := { s.settings with forcedHold := put s.settings.forcedHold n (decide (v ≠ 0)) } },
          !decide (0 ≤ v ∧ v ≤ 1)) := by
  rw [← bne_eq_decide_ne, ← one_lt_eq]
  exact if_neg (by omega)

/-- What Table 11-6 does not name (R182). -/
theorem applySetting_unknown {setting which : Nat}
    (unknown : setting = 0 ∨ 8 < setting ∨ setting = 7 ∧ 20 < which ∨ setting = 8 ∧ (which = 0 ∨ 4 < which)) (v : Nat) (s : State) :
    applySetting setting which v s = none := by
  obtain rfl | high | ⟨rfl, beyond⟩ | ⟨rfl, beyond⟩ := unknown
  · rfl
  · rw [applySetting]
    all_goals omega
  · exact if_pos beyond
  · exact if_pos beyond

/-- Settles O56: each setting is clamped and stored, and takes its effect at once. -/
theorem settingsAreStored : Obligations.SettingsAreStored := by
  intro s r h admits t two stored
  obtain ⟨⟨running, -⟩, -, loaded⟩ := id admits
  have floor {a : Byte} (body : r.body = byte 19 :: [a]) {x : Verdict} (decided : setClosedFloor a.toNat t = x) :
      exec .setClosedFloor s = .next (x.state.answer r 19 x.result x.data) :=
    exec_admitted (execSetClosedFloor.eq_1 s) admits body (by decide) (by rw [body]; rfl) decided
  refine ⟨fun busy => ⟨fun a b c d body => ?_, fun a body => ?_⟩, fun free idle => ⟨fun which v hv => ?_, fun body => ?_, fun body => ?_,
    fun a above body => ?_⟩⟩
  · exact execSetParameter_bytes admits body (setParameter_busy (s := t) busy _ _ _)
  · exact floor body (setClosedFloor_busy (s := t) busy _)
  · have stores {setting which : Byte} {low high : Nat} {u : State} (body : r.body = byte 18 :: [setting, which, byte (v / 256), byte v])
        (applied : applySetting setting.toNat which.toNat v t = some (u, !decide (low ≤ v ∧ v ≤ high))) : stored low high v u := by
      refine (execSetParameter_answer admits hv body (setParameter_applied (s := t) free idle applied)).trans ?_
      by_cases fits : low ≤ v ∧ v ≤ high
      · simp [accept, fits]
      · simp [accept, fits]
    have numbers {setting which : Byte} {low high : Nat} {set : Nat → Settings} (proper : low ≤ high)
        (body : r.body = byte 18 :: [setting, which, byte (v / 256), byte v])
        (applied : applySetting setting.toNat which.toNat v t = some (setNumber low high v set t)) :
        stored low high v { t with settings := set (clamp low high v) } :=
      stores body (applied.trans (congrArg (fun c => some (_, c)) (clamp_bne proper v)))
    refine ⟨?_, fun body => numbers (by decide) body rfl, fun body => numbers (by decide) body rfl, ?_,
      fun body => numbers (by decide) body rfl, fun body => numbers (by decide) body rfl, fun c named body => ?_,
      fun n low high named body => ?_, fun setting unknown body => ?_⟩
    · intro body interval u
      have applied : applySetting 1 which.toNat v t = some (retimeSweep u, !decide (10 ≤ v ∧ v ≤ 600)) :=
        congrArg (fun c => some (retimeSweep u, c)) (clamp_bne (by decide) v)
      have due : u.sweepDue = true ↔ interval ≤ s.sweep.elapsed := by
        simp [State.sweepDue, State.running, u, t, running, loaded]
      refine ⟨fun early => ?_, fun reached => ⟨_, congrArg Host.Outcome.next (if_pos (due.2 reached)), ?_⟩⟩
      · rw [retimeSweep, if_neg (mt due.1 (by omega))] at applied
        exact stores body applied
      · rw [retimeSweep, if_pos (due.2 reached)] at applied
        exact stores body applied
    · intro body silent
      let u : State := { t with settings := { s.settings with silenceLimit := clamp 2 60 v } }
      have inside {n : Nat} (silences : u.Silent n) : n ∈ segmentNumbers := mem_segmentNumbers.2 silences.inside
      obtain ⟨frame, fallen, kept, notice, pending, uplink⟩ := retimeSilence_silences (s := u) running
      refine ⟨_, stores body (congrArg (fun c => some (_, c)) (clamp_bne (by decide) v)), fun n silences => ?_, fun n loud => ?_, notice, ?_,
        uplink, frame⟩
      · exact fallen n (inside silences) silences
      · exact kept n fun k => loud k.2
      · refine pending.trans (or_congr_right ⟨fun ⟨n, _, k⟩ => ⟨n, k⟩, fun ⟨n, silences, up⟩ => ?_⟩)
        exact ⟨n, inside silences, silences, up⟩
    · have code : which.toNat = c.code := by
        have := c.code_lt
        rw [named, byte_toNat_of_lt (by omega)]
      exact stores body ((congrArg (applySetting 7 · v t) code).trans (applySetting_enable (by have := c.code_lt; omega) v t))
    · have code : which.toNat = n := by rw [named, byte_toNat_of_lt (by omega)]
      exact stores body ((congrArg (applySetting 8 · v t) code).trans (applySetting_forced low high v t))
    · have nothing : applySetting setting.toNat which.toNat v t = none := by
        refine applySetting_unknown ?_ v t
        obtain rfl | high | ⟨rfl, beyond⟩ | ⟨rfl, beyond⟩ := unknown
        · exact .inl rfl
        · exact .inr (.inl high)
        · exact .inr (.inr (.inl ⟨rfl, beyond⟩))
        · exact .inr (.inr (.inr ⟨rfl, beyond.imp (congrArg BitVec.toNat) id⟩))
      exact execSetParameter_answer admits hv body (setParameter_refused (s := t) free idle nothing)
  · exact floor body (setClosedFloor_decided (s := t) free idle _)
  · have decided := (setClosedFloor_decided (s := t) free idle (0 : Byte).toNat).trans (if_neg (by decide))
    split
    · next maint => exact floor body (decided.trans (if_neg fun k => Bool.false_ne_true (k.2.symm.trans maint)))
    · next unmaintained => exact floor body (decided.trans (if_pos ⟨rfl, Bool.eq_false_of_not_eq_true unmaintained⟩))
  · exact floor body ((setClosedFloor_decided (s := t) free idle _).trans (if_pos above))

end
end Sys2Proof.Machine
end

/-! # Issues of several zones, and the presence table of a list (R65, R71, R163) -/

section
namespace Sys2Proof.Machine

section
variable {s t u : State}

/-! ## Issues of several zones -/

/-- What issues of any zones may change. -/
structure State.IssuesAny (s t : State) : Prop where
  frame : t = { s with segments := t.segments, notices := t.notices, uplink := t.uplink, zones := t.zones }
  segment : ∀ n, t.segment n = { s.segment n with commands := (t.segment n).commands }
  zone : ∀ z, t.zone z = { s.zone z with outputIncomplete := (t.zone z).outputIncomplete }
  notice : ∀ c, c ≠ .commandOverflow → t.notice c = s.notice c
  uplink : t.uplink = { s.uplink with notices := t.uplink.notices }
  records : ∀ x ∈ t.uplink.notices, x ∈ s.uplink.notices ∨ x.condition = .commandOverflow

theorem State.IssuesAny.refl (s : State) : s.IssuesAny s := ⟨rfl, fun _ => rfl, fun _ => rfl, fun _ _ => rfl, rfl, fun _ => .inl⟩

theorem State.IssuesAny.trans (h : s.IssuesAny t) (k : t.IssuesAny u) : s.IssuesAny u where
  frame := by rw [k.frame, h.frame]
  segment n := by rw [k.segment, h.segment]
  zone z := by rw [k.zone, h.zone]
  notice c ne := (k.notice c ne).trans (h.notice c ne)
  uplink := by rw [k.uplink, h.uplink]
  records x mem := by
    obtain before | overflow := k.records x mem
    · exact h.records x before
    · exact .inr overflow

theorem report_records (c : Condition) (scope : Option Nat) (s : State) :
    ∀ x ∈ (report c scope s).uplink.notices, x ∈ s.uplink.notices ∨ x.condition = c := by
  intro x mem
  simp only [report] at mem
  split at mem
  · simp only [joinNotices] at mem
    split at mem
    · obtain ⟨y, there, rfl⟩ := List.mem_map.1 mem
      split
      · exact .inr rfl
      · exact .inl there
    · obtain before | last := List.mem_append.1 mem
      · exact .inl before
      · obtain rfl := List.mem_singleton.1 last
        exact .inr rfl
  · exact .inl mem

theorem State.IssuesAny.offerCommand (n : Nat) (c : CommandEntry) (s : State) : s.IssuesAny (offerCommand n c s) := by
  have issues := State.Issues.offerCommand n c s
  refine ⟨issues.frame, issues.segment, fun z => ?_, issues.notice, issues.uplink, ?_⟩
  · by_cases own : z = c.zone
    · exact own ▸ issues.zone
    · rw [issues.other z own]
  · obtain ⟨q, -, eq⟩ | ⟨-, eq⟩ := offerCommand_cases n c s
    · exact eq ▸ fun _ => .inl
    · exact eq ▸ report_records _ _ s

theorem State.IssuesAny.offerCommands (cs : List (Nat × CommandEntry)) (s : State) : s.IssuesAny (offerCommands cs s) :=
  offerCommands_induction cs s (.refl s) fun t c _ h => h.trans (.offerCommand c.1 c.2 t)

theorem State.IssuesAny.levelIssue (z fade : Nat) (s : State) : s.IssuesAny (levelIssue z fade s) := .offerCommands _ s

theorem State.IssuesAny.damperIssue (z : Nat) (s : State) : s.IssuesAny (damperIssue z s) := by
  obtain ⟨-, eq⟩ | ⟨p, -, eq⟩ := damperIssue_cases z s
  · rw [eq]; exact .refl s
  · exact eq ▸ .offerCommands _ s

theorem State.IssuesAny.foldl {f : Nat → State → State} (each : ∀ (z : Nat) (t : State), t.IssuesAny (f z t)) (zs : List Nat) (s : State) :
    s.IssuesAny (zs.foldl (fun t z => f z t) s) := by
  induction zs generalizing s with
  | nil => exact .refl s
  | cons z zs ih => exact (each z s).trans (ih _)

theorem State.IssuesAny.active (h : s.IssuesAny t) : t.active = s.active := (congrArg State.active h.frame :)

/-- Issues with the fade codes of a bank in force, zone after zone, are issues with the fade codes of the state. -/
theorem foldl_records_eq {f : ZoneRecord → Nat → State → State}
    (each : ∀ (r : ZoneRecord) (z : Nat) (t : State), t.IssuesAny (f r z t)) {b : Bank} (zs : List Nat)
    (inForce : s.active = b) :
    zs.foldl (fun u z => f (b.zone z) z u) s = zs.foldl (fun u z => f (u.record z) z u) s := by
  induction zs generalizing s with
  | nil => rfl
  | cons z zs ih =>
    subst inForce
    exact ih (each _ z s).active

/-! ## Issues beside another walk -/

theorem offerCommand_walk (n : Nat) (c : CommandEntry) (s : State) (w : Walk) :
    offerCommand n c { s with walk := w } = { offerCommand n c s with walk := w } := by
  have queue : ({ s with walk := w } : State).segment n = s.segment n := rfl
  simp only [offerCommand, queue]
  split <;> rfl

theorem offerCommands_walk (cs : List (Nat × CommandEntry)) (s : State) (w : Walk) :
    offerCommands cs { s with walk := w } = { offerCommands cs s with walk := w } := by
  induction cs generalizing s with
  | nil => rfl
  | cons c cs ih =>
    rw [offerCommands, List.foldl_cons, offerCommand_walk]
    exact ih _

theorem levelIssue_walk (z fade : Nat) (s : State) (w : Walk) :
    levelIssue z fade { s with walk := w } = { levelIssue z fade s with walk := w } := offerCommands_walk _ s w

theorem damperIssue_walk (z : Nat) (s : State) (w : Walk) :
    damperIssue z { s with walk := w } = { damperIssue z s with walk := w } := by
  have position : ({ s with walk := w } : State).zone z = s.zone z := rfl
  simp only [damperIssue, position]
  split
  · exact offerCommands_walk _ s w
  · rfl

/-! ## The presence table of a list (R163) -/

theorem presenceTable_entry (windows : List Window) (old : List PresenceEntry) {a : Nat} (supervised : a ∈ supervisedAddresses windows) :
    presenceEntry (presenceTable windows old) a =
      some ((presenceEntry old a).getD { address := a, state := .unknown, missed := 0, heard := false }) := by
  obtain ⟨-, addresses, entries⟩ := foldl_insert_entries (presenceOf_address old) (supervisedAddresses windows) (table := []) .nil
  have listed : a ∈ (presenceTable windows old).map PresenceEntry.address := (addresses a).2 (.inl supervised)
  obtain ⟨e, mem, named⟩ := List.mem_map.1 listed
  have found : (presenceEntry (presenceTable windows old) a).isSome = true :=
    List.find?_isSome.2 ⟨e, mem, by simpa using named⟩
  obtain ⟨x, found⟩ := Option.isSome_iff_exists.1 found
  have here : x.address = a := by simpa using List.find?_some found
  obtain none | ⟨b, -, rfl⟩ := entries x (List.mem_of_find?_eq_some found)
  · cases none
  · rw [presenceOf_address] at here
    rw [found, here]; rfl

theorem presenceTable_none (windows : List Window) (old : List PresenceEntry) {a : Nat} (unsupervised : a ∉ supervisedAddresses windows) :
    presenceEntry (presenceTable windows old) a = none := by
  obtain ⟨-, addresses, -⟩ := foldl_insert_entries (presenceOf_address old) (supervisedAddresses windows) (table := []) .nil
  refine List.find?_eq_none.2 fun e mem named => unsupervised ?_
  obtain supervised | none := (addresses e.address).1 (List.mem_map_of_mem mem)
  · rwa [beq_iff_eq.1 named] at supervised
  · cases none

end
end Sys2Proof.Machine
end

/-! # The completion of a cutover (R156, R157) -/

section
namespace Sys2Proof.Machine

section
variable {s t u : State}

/-! ## The installed states -/

theorem State.installed_absent {z : Nat} (absent : (s.stagedRecord z).present = false) : s.installed z = .idle :=
  if_neg fun present => Bool.false_ne_true (absent.symm.trans present)

theorem State.installed_pinned {z : Nat} (present : (s.stagedRecord z).present = true) (held : pinned s.active.windows z = true) :
    s.installed z = { (s.zone z).carried (s.stagedRecord z) with frozen := false } := (if_pos present).trans (if_pos held)

theorem State.installed_walked {z : Nat} {c : ZoneState} (visits : s.walks z = true) (computed : s.walk.stateOf z = some c) :
    s.installed z = { c with reportPending := (s.zone z).reportPending, outputIncomplete := false, frozen := false } := by
  obtain ⟨present, free⟩ := (s.walks_iff z).1 visits
  rw [State.installed, if_pos present, if_neg (by simp [free]), computed]

/-! ## The steps of R156 -/

theorem swapAndInstall_issues (s : State) : s.swapped.IssuesAny (swapAndInstall s) := .foldl (fun z t => .levelIssue z _ t) _ s.swapped

theorem mapNumbered_eq_self {α : Type} {n : Nat} {d : α} {v : Vector α n} {f : Nat → α → α}
    (fixed : ∀ i, 1 ≤ i → i ≤ n → f i (nth v d i) = nth v d i) : mapNumbered v f = v := by
  apply Vector.ext
  intro i hi
  have this := fixed (i + 1) (by omega) hi
  simpa [mapNumbered, nth, hi] using this

theorem dropReports_eq (idle : ∀ z, (s.record z).present = false → s.zone z = .idle) :
    dropReports s =
      { s with uplink := { s.uplink with reports := s.uplink.reports.filter fun x => (s.record x.zone).present } } := by
  have same : (mapNumbered s.zones fun z st => if (s.record z).present then st else { st with reportPending := false }) = s.zones :=
    mapNumbered_eq_self (d := .idle) fun z _ _ => by
      split
      · rfl
      · next absent =>
        have dark : nth s.zones .idle z = .idle := idle z (Bool.eq_false_of_not_eq_true absent)
        rw [dark]; rfl
  rw [dropReports, same]

theorem nextGeneration_eq {g : Nat} (most : g ≤ 65535) : nextGeneration g = if g = 65535 then 1 else g + 1 := by
  unfold nextGeneration
  split <;> split <;> omega

/-- The state after R156, its hold queue not counted. -/
def State.keptPlan (s : State) : State := { settlePlan (swapAndInstall s) with walk := Walk.none }

theorem settlePlan_eq {b : Bank} {g : Nat} {cache : List CacheEntry} {presence : List PresenceEntry} (inForce : s.active = b)
    (generation : s.generation = g) (cached : s.cache = cache) (present : s.presence = presence)
    (idle : ∀ z, (s.record z).present = false → s.zone z = .idle) :
    settlePlan s =
      { report .cutoverDone none
          { s with
            generation := nextGeneration g
            uplink := { s.uplink with reports := s.uplink.reports.filter fun x => (b.zone x.zone).present }
            cache := removeMoved b.windows cache
            presence := presenceTable b.windows presence } with
        result := .cleared
        walk := { Walk.none with held := s.walk.held } } := by
  subst inForce generation cached present
  rw [settlePlan, dropReports_eq (s := { s with generation := nextGeneration s.generation }) idle]
  rfl

theorem foldl_reissueZone_walk (zs : List Nat) (s : State) (w : Walk) :
    zs.foldl (fun u z => reissueZone z u) { s with walk := w } = { zs.foldl (fun u z => reissueZone z u) s with walk := w } := by
  induction zs generalizing s with
  | nil => rfl
  | cons z zs ih =>
    have record : ({ s with walk := w } : State).record z = s.record z := rfl
    rw [List.foldl_cons, reissueZone, record, levelIssue_walk, damperIssue_walk]
    exact ih _

/-- The state of the re-issued zones, its hold queue not counted. -/
def State.keptReissued (s : State) : State := (zoneNumbers.filter s.walks).foldl (fun u z => reissueZone z u) s.keptPlan

theorem State.IssuesAny.reissueZone (z : Nat) (s : State) : s.IssuesAny (reissueZone z s) :=
  (State.IssuesAny.levelIssue z _ s).trans (.damperIssue z _)

theorem keptReissued_issues (s : State) : s.keptPlan.IssuesAny s.keptReissued := .foldl (fun z t => .reissueZone z t) _ _

theorem keptReissued_eq (s : State) : s.keptReissued = { reissued s with walk := Walk.none } := foldl_reissueZone_walk _ _ _

theorem settlePlan_carries (s : State) :
    (settlePlan s).walk = { Walk.none with held := s.walk.held } ∧ (settlePlan s).engine = s.engine ∧ (settlePlan s).sweep = s.sweep :=
  ⟨rfl, rfl, rfl⟩

/-- What the completion carries through its issues. -/
theorem reissued_carries (s : State) :
    (reissued s).walk = { Walk.none with held := s.walk.held } ∧ (reissued s).engine = s.engine ∧ (reissued s).sweep = s.sweep := by
  have swap := (swapAndInstall_issues s).frame
  have swapWalk : (swapAndInstall s).walk = s.walk := (congrArg State.walk swap :)
  have swapEngine : (swapAndInstall s).engine = s.engine := (congrArg State.engine swap :)
  have swapSweep : (swapAndInstall s).sweep = s.sweep := (congrArg State.sweep swap :)
  have issues := (State.IssuesAny.foldl (fun z t => .reissueZone z t) (zoneNumbers.filter s.walks) (settlePlan (swapAndInstall s))).frame
  have walk : (reissued s).walk = (settlePlan (swapAndInstall s)).walk := (congrArg State.walk issues :)
  have engine : (reissued s).engine = (settlePlan (swapAndInstall s)).engine := (congrArg State.engine issues :)
  have sweep : (reissued s).sweep = (settlePlan (swapAndInstall s)).sweep := (congrArg State.sweep issues :)
  obtain ⟨settledWalk, settledEngine, settledSweep⟩ := settlePlan_carries (swapAndInstall s)
  exact ⟨by rw [walk, settledWalk, swapWalk], by rw [engine, settledEngine, swapEngine], by rw [sweep, settledSweep, swapSweep]⟩

theorem completeCutover_eq_deliver (s : State) :
    completeCutover s =
      { s.walk.held.foldl deliver (startWrite s.keptReissued) with
        engine := { s.engine with gateOpen := true }, sweep := s.sweep.released } := by
  obtain ⟨walk, engine, sweep⟩ := reissued_carries s
  have released : releaseHeld (startWrite (reissued s)) = s.walk.held.foldl deliver (startWrite s.keptReissued) := by
    have held : (startWrite (reissued s)).walk = { Walk.none with held := s.walk.held } := walk
    rw [releaseHeld, held, keptReissued_eq]
    rfl
  have frame := (State.Delivers.foldl (startWrite s.keptReissued) s.walk.held).frame
  have engine' : (s.walk.held.foldl deliver (startWrite s.keptReissued)).engine = s.engine := by
    refine (congrArg State.engine frame :).trans ?_
    rw [keptReissued_eq]
    exact engine
  have sweep' : (s.walk.held.foldl deliver (startWrite s.keptReissued)).sweep = s.sweep := by
    refine (congrArg State.sweep frame :).trans ?_
    rw [keptReissued_eq]
    exact sweep
  rw [completeCutover_eq]
  dsimp only
  rw [releaseSweep_eq, released, engine', sweep']

theorem State.completionDue_iff (s : State) :
    s.completionDue = true ↔
      s.resetLow = false ∧ s.staging = .cutting ∧ s.engine.current = none ∧ s.sweep.phase = .idle
        ∧ (s.walk.phase = .finished ∨ s.walk.phase = .waiting ∧ ∀ z, s.walks z = false) := by
  have nobody : (nextZone s.walks 0).isNone = true ↔ ∀ z, s.walks z = false := by
    rw [Option.isNone_iff_eq_none, nextZone_eq_none]
    refine ⟨fun none z => Bool.eq_false_of_not_eq_true fun visits => ?_, fun none z _ _ _ => none z⟩
    obtain ⟨low, high⟩ := State.walks_inside visits
    exact Bool.false_ne_true ((none z low high low).symm.trans visits)
  simp only [State.completionDue, State.running, Bool.and_eq_true, Bool.or_eq_true, decide_eq_true_eq, Bool.not_eq_true', nobody,
    Option.isNone_iff_eq_none, and_assoc]

/-- The level issues of R156 step 2, with the fade codes of the new plan. -/
theorem swapAndInstall_eq (s : State) :
    swapAndInstall s =
      ((List.range' 1 255).filter fun z =>
          (s.stagedRecord z).present && pinned s.active.windows z && decide ((s.swapped.zone z).level ≠ (s.zone z).level)).foldl
        (fun u z => levelIssue z (s.stagedRecord z).normalFade u) s.swapped := by
  have raised : raisedZones s = (List.range' 1 255).filter fun z =>
      (s.stagedRecord z).present && pinned s.active.windows z && decide ((s.swapped.zone z).level ≠ (s.zone z).level) := by
    rw [raisedZones]
    refine congrArg (List.filter · zoneNumbers) ?_
    funext z
    rw [s.swapped_zone, bne_eq_decide_ne]
  rw [← raised]
  exact (foldl_records_eq (f := fun q z u => levelIssue z q.normalFade u) (fun q z t => .levelIssue z _ t) _ rfl).symm

/-- The re-issues of R157, with the fade codes of the new plan. -/
theorem keptReissued_fold (s : State) (active : s.keptPlan.active = s.staged) :
    s.keptReissued =
      ((List.range' 1 255).filter fun z => (s.stagedRecord z).present && !pinned s.active.windows z).foldl
        (fun u z => damperIssue z (levelIssue z (s.stagedRecord z).rezoneFade u)) s.keptPlan :=
  (foldl_records_eq (f := fun q z u => damperIssue z (levelIssue z q.rezoneFade u))
    (fun _ z t => (State.IssuesAny.levelIssue z _ t).trans (.damperIssue z _)) _ active).symm

/-- The state in which CUTOVER_DONE is reported. -/
def State.planned (s : State) : State :=
  { swapAndInstall s with
    generation := if s.generation = 65535 then 1 else s.generation + 1
    uplink :=
      { (swapAndInstall s).uplink with
        reports := (swapAndInstall s).uplink.reports.filter fun x => (s.stagedRecord x.zone).present }
    cache := removeMoved s.staged.windows s.cache
    presence := presenceTable s.staged.windows s.presence }

theorem State.Law.keptPlan_eq (h : s.Law) :
    s.keptPlan = { Machine.report .cutoverDone none s.planned with result := .cleared, walk := Walk.none } := by
  have offers := swapAndInstall_offers h
  have frame := offers.frame
  obtain ⟨-, -, -, -, most, -⟩ := h.count
  have settled := settlePlan_eq (s := swapAndInstall s) (congrArg State.active frame :) (congrArg State.generation frame :)
    (congrArg State.cache frame :) (congrArg State.presence frame :) fun z => (offers.zonesLaw h.swapped_zones z).idle
  rw [State.keptPlan, settled, State.planned, ← nextGeneration_eq most]
  rfl

/-! ## What a completed cutover leaves -/

theorem completeCutover_zone (h : s.Law) (z : Nat) :
    (completeCutover s).zone z = { s.installed z with outputIncomplete := ((completeCutover s).zone z).outputIncomplete } := by
  have delivered : (completeCutover s).zone z = s.keptReissued.zone z := by
    rw [completeCutover_eq_deliver, (State.Delivers.foldl (startWrite s.keptReissued) s.walk.held).frame]
    rfl
  have kept : s.keptPlan.zone z = (swapAndInstall s).zone z := by
    rw [h.keptPlan_eq]
    rfl
  rw [delivered, (keptReissued_issues s).zone z, kept, (swapAndInstall_issues s).zone z, s.swapped_zone]

theorem completeCutover_notice (h : s.Law) :
    (completeCutover s).notice .cutoverDone = (s.notice .cutoverDone).reported none := by
  have delivered : (completeCutover s).notice .cutoverDone = s.keptReissued.notice .cutoverDone := by
    rw [completeCutover_eq_deliver]
    exact (State.Delivers.foldl (startWrite s.keptReissued) s.walk.held).notice _ (by simp)
  have kept : s.keptPlan.notice .cutoverDone = ((swapAndInstall s).notice .cutoverDone).reported none := by
    rw [h.keptPlan_eq]
    show (report .cutoverDone none s.planned).notice .cutoverDone = _
    rw [notice_report, if_pos rfl]
    rfl
  rw [delivered, (keptReissued_issues s).notice _ (by simp), kept, (swapAndInstall_issues s).notice _ (by simp)]
  rfl

theorem completeCutover_segment (h : s.Law) (n : Nat) :
    (completeCutover s).segment n =
      { s.segment n with
        commands := ((completeCutover s).segment n).commands, stations := ((completeCutover s).segment n).stations } := by
  have delivered : (completeCutover s).segment n =
      { s.keptReissued.segment n with stations := ((completeCutover s).segment n).stations } := by
    rw [completeCutover_eq_deliver]
    exact (State.Delivers.foldl (startWrite s.keptReissued) s.walk.held).segment n
  have kept : s.keptPlan.segment n = (swapAndInstall s).segment n := by
    rw [h.keptPlan_eq]
    rfl
  rw [delivered, (keptReissued_issues s).segment n, kept, (swapAndInstall_issues s).segment n]
  rfl

theorem Sweep.released_of_idle {w : Sweep} (idle : w.phase = .idle) :
    w.released = { w with deferred := false, phase := if w.deferred then .starting else .idle } := by
  obtain ⟨elapsed, number, phase, waiting, deferred⟩ := w
  obtain rfl : phase = .idle := idle
  cases deferred with
  | true => rfl
  | false => rfl

/-- Settles O53: the completion, step by step, and what its parts carry through. -/
theorem cutoverCompletes : Obligations.CutoverCompletes := by
  intro s h running cutting visits ended free idle
  have due : s.completionDue = true := s.completionDue_iff.2 ⟨running, cutting, free, idle, ended⟩
  have frame := (completeCutover_offers h).frame
  have law : (completeCutover s).Law :=
    (h.completed due).offers (completeCutover_offers h) (h.awake_of_staging (by simp [cutting]))
  have kept := h.keptPlan_eq
  have cache : s.keptPlan.cache = removeMoved s.staged.windows s.cache := (congrArg State.cache kept :)
  have presence : s.keptPlan.presence = presenceTable s.staged.windows s.presence := (congrArg State.presence kept :)
  obtain ⟨keyed, -, -, missed⟩ := h.table
  obtain ⟨supervisedKeyed, -, -⟩ := presenceTable_lawful s.staged.windows missed
  refine ⟨s.swapped, s.keptPlan, completeCutover s, congrArg Host.Outcome.next (if_pos due), rfl, fun z absent => ?_,
    fun z c visited computed => ?_, fun z present held => ?_, ?_, fun e => ?_, ?_, fun a supervised => ?_, fun a unsupervised => ?_, ?_, ?_,
    ?_⟩
  · rw [s.swapped_zone, State.installed_absent absent]
  · rw [s.swapped_zone, State.installed_walked visited computed]
  · have law := (h.zone_sound z).level
    have record := h.stagedRecord_inRange z
    rw [s.swapped_zone, State.installed_pinned present held, ZoneState.carried, ZoneRecord.bound_eq_max record law.level_le,
      ZoneRecord.bound_eq_max record law.preGrace_le]
  · intro raised issued
    have same : swapAndInstall s = issued := swapAndInstall_eq s
    rw [cache, presence, ← same]
    exact kept
  · rw [cache, removeMoved, List.mem_filter]
    refine and_congr_right fun _ => ?_
    cases lookup s.staged.windows e.address with
    | none => simp
    | some w => simp
  · rw [cache]
    exact keyed.sublist (List.filter_sublist.map _)
  · rw [presence]
    exact presenceTable_entry _ _ (mem_supervisedAddresses.2 supervised)
  · rw [presence]
    refine presenceTable_none _ _ fun supervised => ?_
    obtain ⟨w, listed, covers⟩ := mem_supervisedAddresses.1 supervised
    exact unsupervised w listed covers
  · rw [presence]
    exact supervisedKeyed
  · intro walked reissued released
    have active : s.keptPlan.active = s.staged := (congrArg State.active kept :).trans (swapAndInstall_offers h).active
    have same : s.keptReissued = reissued := keptReissued_fold s active
    have sweep : s.sweep.released = { s.sweep with deferred := false, phase := if s.sweep.deferred then .starting else .idle } :=
      Sweep.released_of_idle idle
    have eq := completeCutover_eq_deliver s
    rw [same, sweep] at eq
    exact eq
  · refine ⟨(congrArg State.active frame :), (congrArg State.staged frame :), (congrArg State.staging frame :),
      (congrArg State.result frame :), (congrArg State.walk frame :), ?_, ?_, ?_, law.idle, fun z => ?_, completeCutover_notice h,
      (congrArg (fun t : State => t.store.writing) frame :), (congrArg State.settings frame :), (congrArg State.shadow frame :),
      (congrArg State.deviceTime frame :), (congrArg State.link frame :), (congrArg State.slot frame :), (congrArg State.uplink frame :),
      completeCutover_segment h⟩
    · obtain ⟨-, -, -, -, most, -⟩ := h.count
      exact (congrArg State.generation frame :).trans (nextGeneration_eq most)
    · exact (congrArg State.cache frame :).trans cache.symm
    · exact (congrArg State.presence frame :).trans presence.symm
    · have zone := completeCutover_zone h z
      rw [← s.swapped_zone] at zone
      exact ⟨by rw [ZoneState.SameButFlags, zone], by rw [zone]⟩

end
end Sys2Proof.Machine
end

/-! # The warm restart (R62, R63, R155, R183) -/

section
namespace Sys2Proof.Machine

section
variable {s t u : State} {r : Request}

/-! ## Lit zones and their issues -/

/-- A zone lit at its on level with a full hold (R62). -/
theorem ZoneRecord.litState_eq {q : ZoneRecord} (record : q.InRange) (levels : q.minOn ≤ q.onLevel) :
    q.litState = { ZoneState.idle with occupancy := .occupied, hold := q.holdTime * 60, level := q.onLevel } := by
  rw [litState, ZoneState.withLevel, bound_onLevel record levels]
  rfl

theorem lightZones_eq (valid : s.active.Valid) (z : Nat) :
    nth (lightZones s) .idle z =
      if (s.record z).present then
        { ZoneState.idle with occupancy := .occupied, hold := (s.record z).holdTime * 60, level := (s.record z).onLevel }
      else .idle := by
  have ⟨stored, _⟩ := valid
  rw [lightZones_zone]
  split
  · next present => exact ZoneRecord.litState_eq (stored.zone_inRange z) (valid.minOn_le_onLevel present)
  · rfl

theorem issuePresent_issues (s : State) : s.IssuesAny (issuePresent s) := .foldl (fun z t => .levelIssue z _ t) _ s

theorem issuePresent_eq {b : Bank} (inForce : s.active = b) :
    issuePresent s =
      ((List.range' 1 255).filter fun z => (b.zone z).present).foldl (fun u z => levelIssue z (b.zone z).normalFade u) s := by
  refine Eq.symm ((foldl_records_eq (f := fun q z u => levelIssue z q.normalFade u) (fun _ z t => .levelIssue z _ t) _ inForce).trans ?_)
  subst inForce
  rfl

/-! ## The abort a restart makes (R155) -/

theorem abortForRestart_eq (s : State) :
    abortForRestart s =
      { s.stopped.reportAbort s.relianceLost with
        walk := Walk.none, engine := { s.engine with gateOpen := true }, sweep := { s.sweep with deferred := false } } := by
  rw [abortForRestart, stopWalk_eq]
  cases s.relianceLost with
  | true => rfl
  | false => rfl

/-- The state once a restart has aborted a walk in progress. -/
def State.halted (s : State) : State := if s.staging = .cutting then abortForRestart s else s

theorem State.halted_frame (s : State) :
    s.halted =
      { s with
        staging := s.halted.staging, result := s.halted.result, walk := s.halted.walk, zones := s.halted.zones, engine := s.halted.engine
        sweep := s.halted.sweep, notices := s.halted.notices, uplink := s.halted.uplink } := by
  rw [halted]
  split
  · rw [abortForRestart_eq, State.reportAbort_frame]
    rfl
  · rfl

theorem State.halted_notice (s : State) (c : Condition) :
    s.halted.notice c =
      if s.staging = .cutting ∧ (c = .cutoverAborted ∨ c = .stageRejected ∧ s.relianceLost = true) then (s.notice c).reported none
      else s.notice c := by
  rw [halted]
  by_cases cutting : s.staging = .cutting
  · rw [if_pos cutting, abortForRestart_eq]
    simp only [cutting, true_and]
    exact s.stopped.reportAbort_notice _ c
  · rw [if_neg cutting, if_neg fun k => cutting k.1]

/-- What a restart's abort leaves of the staging, and what it finds so outside CUTTING. -/
theorem State.halted_staging (outside : s.staging ≠ .cutting → s.walk = Walk.none ∧ s.engine.gateOpen = true) :
    s.halted.walk = Walk.none ∧ s.halted.engine.gateOpen = true ∧ s.halted.sweep.number = s.sweep.number
      ∧ s.halted.staging = (if s.staging = .cutting then s.stopped.staging else s.staging)
      ∧ s.halted.result = (if s.staging = .cutting then s.stopped.result else s.result) := by
  rw [halted]
  by_cases cutting : s.staging = .cutting
  · simp only [if_pos cutting]
    rw [abortForRestart_eq, State.reportAbort_frame]
    exact ⟨rfl, rfl, rfl, rfl, rfl⟩
  · simp only [if_neg cutting]
    obtain ⟨walk, gate⟩ := outside cutting
    exact ⟨walk, gate, trivial, trivial, trivial⟩

/-! ## The answer to a RESTART -/

theorem execRestart_admitted (admits : s.Admits r) (body : r.body = [23]) :
    exec .restart s =
      .next
        (if s.store.writing then ({ s with slot := none } : State).answer r 23 .busy [] else warmRestart r { s with slot := none }) := by
  obtain ⟨taken, here, quiet⟩ := admits
  have named : requestCode r.body = some 23 := by rw [body]; rfl
  have passes : screenRequest r false false { s with slot := none } = none :=
    screenRequest_eq_none (by rw [body]; rfl) (.inl here) (.inl quiet)
  show execRestart s = _
  simp only [execRestart, taken.takeable, if_pos named, passes]
  rfl

theorem restartRest_notice (t : State) (c : Condition) : (restartRest t).notice c = { t.notice c with pending := false } :=
  notice_mapped t (fun _ n => { n with pending := false }) c

/-- The uplink of a restart: its reply alone. -/
def repliedUplink (s : State) (r : Request) : Uplink :=
  { Uplink.empty with replies := if s.link = .up then [{ tag := r.tag, body := [23, 0] }] else [] }

theorem warmRestart_eq (r : Request) (s : State) :
    warmRestart r s = restartRest (issuePresent ({ s.halted with uplink := repliedUplink s r } : State).restartLit) := by
  have link : s.halted.link = s.link := (congrArg State.link s.halted_frame :)
  have replied : replyTo r (byte 23) (accept false { s.halted with uplink := .empty }) = { s.halted with uplink := repliedUplink s r } := by
    rw [replyTo, offerReply, repliedUplink]
    show ({ s.halted with uplink := if s.halted.link = .up then _ else _ } : State) = _
    rw [link]
    split <;> rfl
  rw [warmRestart]
  show restartBlocks (replyTo r (byte 23) (accept false { s.halted with uplink := .empty })) = _
  rw [replied, restartBlocks_eq]

theorem Segment.restarted_eq (g : Segment) (forced : Bool) :
    g.restarted forced =
      { Segment.afterReset with
        receiving := g.receiving
        transmitting := g.transmitting
        hold := if forced then .held else .released
        control := some (if forced then .hold else .release) } := by
  cases forced with
  | true => rfl
  | false => rfl

theorem restartLit_segment (s : State) {n : Nat} (low : 1 ≤ n) (high : n ≤ 4) :
    s.restartLit.segment n = (s.segment n).restarted (s.forcedHold n) :=
  nth_mapNumbered s.segments _ Segment.afterReset Segment.afterReset low high

theorem restartLit_frame (s : State) (q : Uplink) :
    let lit := ({ s.halted with uplink := q } : State).restartLit
    lit =
      { s with
        segments := lit.segments, engine := lit.engine, zones := lit.zones, sweep := lit.sweep, staging := lit.staging
        result := lit.result, walk := lit.walk, notices := lit.notices, uplink := lit.uplink, slot := lit.slot } := by
  have halted := s.halted_frame
  generalize s.halted = u at halted ⊢
  rw [halted]
  rfl

theorem restarted_frame (s : State) (q : Uplink) :
    let t := restartRest (issuePresent ({ s.halted with uplink := q } : State).restartLit)
    t =
      { s with
        segments := t.segments, engine := t.engine, zones := t.zones, shadow := t.shadow, cache := t.cache, presence := t.presence
        sweep := t.sweep, staging := t.staging, result := t.result, walk := t.walk, notices := t.notices, uplink := t.uplink
        slot := t.slot } := by
  have lit := restartLit_frame s q
  have issued := (issuePresent_issues ({ s.halted with uplink := q } : State).restartLit).frame
  generalize issuePresent ({ s.halted with uplink := q } : State).restartLit = u at issued ⊢
  generalize ({ s.halted with uplink := q } : State).restartLit = x at lit issued
  rw [issued, lit]
  rfl

theorem length_le_one_of_conditions {q : List NoticeRecord} {c : Condition} (keyed : (q.map NoticeRecord.condition).Nodup)
    (same : ∀ x ∈ q, x.condition = c) : q.length ≤ 1 := by
  match q, keyed, same with
  | [], _, _ => exact Nat.zero_le _
  | [_], _, _ => exact le_rfl
  | x :: y :: _, keyed, same =>
    have twice : x.condition = y.condition := (same x (by simp)).trans (same y (by simp)).symm
    simp [twice] at keyed

theorem State.stopped_not_rehearsing (s : State) : s.stopped.staging ≠ .rehearsing := by
  rw [stopped]
  dsimp only
  split
  · exact nofun
  · split <;> exact nofun

/-- Settles O58: the abort, the lit blocks, the issues of every present zone, and the rest of the restart. -/
theorem restartKeepsThePlanAndLightsEveryZone : Obligations.RestartKeepsThePlanAndLightsEveryZone := by
  intro s r h admits body
  have answered := execRestart_admitted admits body
  refine ⟨fun writing => answered.trans (congrArg Host.Outcome.next (if_pos writing)), fun idle => ?_⟩
  intro lost emptied bright replied
  let s₀ : State := { s with slot := none }
  let base : State := { s₀.halted with uplink := repliedUplink s₀ r }
  have eq : exec .restart s = .next (restartRest (issuePresent base.restartLit)) := by
    rw [answered, if_neg (by simp [idle]), warmRestart_eq]
  obtain ⟨t, next, law⟩ := exec_law h .restart
  obtain rfl : restartRest (issuePresent base.restartLit) = t := Host.Outcome.next.inj (eq.symm.trans next)
  have issues := issuePresent_issues base.restartLit
  have frame := issues.frame
  have halted := s₀.halted_frame
  have active : base.restartLit.active = s.active := (congrArg State.active halted :)
  have segment (n : Nat) (low : 1 ≤ n) (high : n ≤ 4) : base.restartLit.segment n = emptied n := by
    have same : base.segment n = s.segment n := (congrArg (fun u : State => u.segment n) halted :)
    have forced : base.forcedHold n = s.forcedHold n := (congrArg (fun u : State => u.forcedHold n) halted :)
    rw [restartLit_segment _ low high, Segment.restarted_eq, same, forced]
  have zone (z : Nat) : base.restartLit.zone z = if (s.record z).present then bright z else .idle := by
    have record : base.record z = s.record z := (congrArg (fun u : State => u.record z) halted :)
    have lights : nth (lightZones base) .idle z = _ := lightZones_eq (s := base) (by
      show s₀.halted.active.Valid
      rw [halted]
      exact h.active_valid) z
    rw [record] at lights
    exact lights
  have uplink : base.restartLit.uplink = replied := rfl
  have overflow : base.restartLit.notice .commandOverflow = s.notice .commandOverflow :=
    (s₀.halted_notice _).trans (if_neg (by simp))
  have notice (c : Condition) (ne : c ≠ .commandOverflow) :
      (restartRest (issuePresent base.restartLit)).notice c = { s₀.halted.notice c with pending := false } := by
    rw [restartRest_notice, issues.notice c ne]
    rfl
  obtain ⟨walk, gate, number, staging, result⟩ := s₀.halted_staging fun free => by
    obtain ⟨before, -⟩ := h.cutover
    obtain ⟨walk, gate, -⟩ := before free
    exact ⟨walk, gate⟩
  have lost_iff : s.staging = .cutting ∧ s₀.relianceLost = true ↔ lost := and_congr_right fun _ => s₀.relianceLost_iff
  have records : ∀ x ∈ (issuePresent base.restartLit).uplink.notices, x.condition = .commandOverflow := fun x mem => by
    obtain before | overflow := issues.records x mem
    · rw [uplink] at before
      cases before
    · exact overflow
  have inForce : (restartRest (issuePresent base.restartLit)).active = s.active := (congrArg State.active frame :).trans active
  have presence : (restartRest (issuePresent base.restartLit)).presence = presenceTable s.active.windows [] :=
    congrArg (fun b : Bank => presenceTable b.windows []) inForce
  refine ⟨base.restartLit, issuePresent base.restartLit, _, eq, segment, zone, uplink, overflow, ?_, ?_, rfl, rfl, rfl, fun n low high => ?_,
    fun z absent => ?_, fun z present => ?_, ?_, records, ?_, ?_, ?_, ?_, fun c ne ne' ne'' => ?_, ?_, rfl, rfl, rfl, ?_, ?_, ?_, ?_,
    fun a supervised => ?_, fun a unsupervised => ?_, fun c => ?_, ?_⟩
  · exact restartLit_frame s₀ _
  · exact issuePresent_eq active
  · refine (issues.segment n).trans ?_
    rw [segment n low high]
  · refine law.idle z ?_
    rw [State.record, inForce]
    exact absent
  · refine (issues.zone z).trans ?_
    rw [zone z, if_pos present]
  · exact issues.uplink
  · obtain ⟨-, ⟨-, -, -, -, keyed⟩, -⟩ := law.queue
    exact length_le_one_of_conditions keyed records
  · rw [restartRest_notice]
  · rw [notice _ (by simp), s₀.halted_notice]
    refine congrArg (fun n : NoticeState => { n with pending := false }) ?_
    simp only [true_or, and_true]
    rfl
  · rw [notice _ (by simp), s₀.halted_notice]
    refine congrArg (fun n : NoticeState => { n with pending := false }) ?_
    simp only [reduceCtorEq, false_or, true_and]
    rw [← if_congr lost_iff rfl rfl]
    rfl
  · rw [notice c ne, s₀.halted_notice, if_neg (by simp [ne', ne''])]
    rfl
  · refine (congrArg State.engine frame :).trans ?_
    exact congrArg (fun g => ({ pointer := 1, gateOpen := g, current := none, traceCount := 0 } : Engine)) gate
  · exact (congrArg State.walk frame :).trans walk
  · have same : (issuePresent base.restartLit).sweep.number = s.sweep.number := (congrArg (fun u : State => u.sweep.number) frame :).trans number
    exact congrArg (fun n => ({ elapsed := 0, number := n, phase := .idle, waiting := 0, deferred := false } : Sweep)) same
  · have same : (issuePresent base.restartLit).staging = s₀.halted.staging := (congrArg State.staging frame :)
    show (if (issuePresent base.restartLit).staging = .rehearsing then StagingState.validated else (issuePresent base.restartLit).staging) = _
    rw [same, staging]
    by_cases cutting : s.staging = .cutting
    · have relied : s₀.relianceLost = true ↔ lost := ⟨fun k => lost_iff.1 ⟨cutting, k⟩, fun k => (lost_iff.2 k).2⟩
      have stopped : s₀.stopped.staging = if s.walk.revert then .retained else if lost then .editing else .validated := by
        rw [← if_congr relied rfl rfl]
        rfl
      have steady : s₀.stopped.staging ≠ .rehearsing := s₀.stopped_not_rehearsing
      rw [if_pos (show s₀.staging = .cutting from cutting), if_neg steady, if_pos cutting, stopped]
    · rw [if_neg (show ¬s₀.staging = .cutting from cutting), if_neg cutting]
  · refine ((congrArg State.result frame :).trans result).trans ?_
    by_cases cutting : s.staging = .cutting
    · have relied : s₀.relianceLost = true ↔ lost := ⟨fun k => lost_iff.1 ⟨cutting, k⟩, fun k => (lost_iff.2 k).2⟩
      rw [if_pos (show s₀.staging = .cutting from cutting), ← if_congr relied rfl rfl]
      rfl
    · rw [if_neg (show ¬s₀.staging = .cutting from cutting), if_neg fun k => cutting k.1]
  · exact (congrArg (presenceEntry · a) presence).trans (presenceTable_entry _ [] (mem_supervisedAddresses.2 supervised))
  · refine (congrArg (presenceEntry · a) presence).trans (presenceTable_none _ [] fun supervised => ?_)
    obtain ⟨w, listed, covers⟩ := mem_supervisedAddresses.1 supervised
    exact unsupervised w listed covers
  · rw [restartRest_notice]
  · exact restarted_frame s₀ _

end
end Sys2Proof.Machine
end

/-! # Cold reset, store load and store write (R15, R19, R62, R160 to R162) -/

section
namespace Sys2Proof.Machine

section
variable {s : State}

theorem loadImage_of_agrees (agrees : s.store.image.agrees = true) :
    loadImage s =
      { s with
        loading := false, active := s.store.image.bank, generation := s.store.image.generation, settings := s.store.image.settings
        store := { s.store with status := .valid } } := if_pos agrees

theorem loadImage_of_disagrees (disagrees : s.store.image.agrees = false) :
    loadImage s =
      report .storeInvalid none
        { s with
          loading := false, active := .empty, generation := 0, settings := .default
          store := { s.store with status := .invalid } } :=
  if_neg fun agrees => Bool.false_ne_true (disagrees.symm.trans agrees)

theorem loadImage_frame (s : State) :
    loadImage s =
      { s with
        loading := false, active := (loadImage s).active, generation := (loadImage s).generation, settings := (loadImage s).settings
        store := (loadImage s).store, notices := (loadImage s).notices, uplink := (loadImage s).uplink } := by
  rw [loadImage]
  dsimp only
  split <;> rfl

theorem loadImage_notice (s : State) {c : Condition} (ne : c ≠ .storeInvalid) : (loadImage s).notice c = s.notice c := by
  cases agrees : s.store.image.agrees with
  | true => rw [loadImage_of_agrees agrees]; rfl
  | false =>
    rw [loadImage_of_disagrees agrees, notice_report, if_neg ne]
    rfl

theorem Segment.matchForced_eq (g : Segment) (forced : Bool) :
    g.matchForced forced =
      let held := decide (forced = true ∨ 64 ≤ g.ingress.length)
      { g with hold := if held then .held else .released, control := some (if held then .hold else .release) } := by
  by_cases held : forced = true ∨ 64 ≤ g.ingress.length
  · simp only [matchForced, if_pos held, decide_eq_true held, if_true]
    rfl
  · simp only [matchForced, if_neg held, decide_eq_false held]
    rfl

theorem loadLit_segment (s : State) {n : Nat} (low : 1 ≤ n) (high : n ≤ 4) :
    s.loadLit.segment n = ((loadImage s).segment n).matchForced ((loadImage s).forcedHold n) :=
  nth_mapNumbered (loadImage s).segments _ Segment.afterReset Segment.afterReset low high

theorem loadLit_frame (s : State) :
    s.loadLit =
      { s with
        loading := false, active := s.loadLit.active, generation := s.loadLit.generation, settings := s.loadLit.settings
        store := s.loadLit.store, zones := s.loadLit.zones, segments := s.loadLit.segments, presence := s.loadLit.presence
        sweep := s.loadLit.sweep, notices := s.loadLit.notices, uplink := s.loadLit.uplink } := by
  have frame := loadImage_frame s
  rw [State.loadLit]
  generalize loadImage s = u at frame
  rw [frame]

theorem loadImage_uplink (s : State) : (loadImage s).uplink = { s.uplink with notices := (loadImage s).uplink.notices } := by
  cases agrees : s.store.image.agrees with
  | true => rw [loadImage_of_agrees agrees]
  | false => rw [loadImage_of_disagrees agrees, report_uplink]

theorem loaded_frame (s : State) :
    let t := issuePresent s.loadLit
    t =
      { s with
        loading := false, active := t.active, generation := t.generation, settings := t.settings, store := t.store
        zones := t.zones, segments := t.segments, presence := t.presence, sweep := t.sweep, notices := t.notices
        uplink := t.uplink } := by
  have lit := loadLit_frame s
  have issued := (issuePresent_issues s.loadLit).frame
  generalize issuePresent s.loadLit = u at issued ⊢
  generalize s.loadLit = x at lit issued
  rw [issued, lit]

theorem loadLit_eq_of_issued (s : State) :
    let t := issuePresent s.loadLit
    s.loadLit = { t with segments := s.loadLit.segments, zones := s.loadLit.zones, notices := s.loadLit.notices, uplink := s.loadLit.uplink } := by
  have issued := (issuePresent_issues s.loadLit).frame
  generalize issuePresent s.loadLit = u at issued ⊢
  rw [issued]

theorem loadLit_carries (s : State) :
    s.loadLit.loading = (loadImage s).loading ∧ s.loadLit.active = (loadImage s).active
      ∧ s.loadLit.generation = (loadImage s).generation ∧ s.loadLit.settings = (loadImage s).settings
      ∧ s.loadLit.store = (loadImage s).store ∧ s.loadLit.uplink = (loadImage s).uplink
      ∧ (∀ c, s.loadLit.notice c = (loadImage s).notice c)
      ∧ s.loadLit.presence = presenceTable (loadImage s).active.windows []
      ∧ s.loadLit.sweep = { (loadImage s).sweep with elapsed := 0 } := by
  rw [State.loadLit]
  generalize loadImage s = u
  exact ⟨rfl, rfl, rfl, rfl, rfl, rfl, fun _ => rfl, rfl, rfl⟩

/-- What the issues after a load carry through. -/
theorem loaded_carries (s : State) :
    let t := issuePresent s.loadLit
    t.loading = false ∧ t.active = (loadImage s).active ∧ t.generation = (loadImage s).generation
      ∧ t.settings = (loadImage s).settings ∧ t.store = (loadImage s).store
      ∧ (∀ c, c ≠ .commandOverflow → t.notice c = (loadImage s).notice c)
      ∧ t.presence = presenceTable t.active.windows []
      ∧ t.sweep = { s.sweep with elapsed := 0 }
      ∧ t.uplink = { s.uplink with notices := t.uplink.notices } := by
  intro t
  obtain ⟨loading, active, generation, settings, store, uplink, notice, presence, sweep⟩ := loadLit_carries s
  have issues := issuePresent_issues s.loadLit
  have frame : t = _ := issues.frame
  have image := loadImage_frame s
  have imageLoading : (loadImage s).loading = false := (congrArg State.loading image :)
  have imageSweep : (loadImage s).sweep = s.sweep := (congrArg State.sweep image :)
  have inForce : t.active = s.loadLit.active := (congrArg State.active frame :)
  refine ⟨?_, inForce.trans active, ?_, ?_, ?_, fun c ne => (issues.notice c ne).trans (notice c), ?_, ?_, ?_⟩
  · rw [← imageLoading, ← loading]; exact (congrArg State.loading frame :)
  · rw [← generation]; exact (congrArg State.generation frame :)
  · rw [← settings]; exact (congrArg State.settings frame :)
  · rw [← store]; exact (congrArg State.store frame :)
  · rw [inForce, active, ← presence]; exact (congrArg State.presence frame :)
  · rw [← imageSweep, ← sweep]; exact (congrArg State.sweep frame :)
  · have before := loadImage_uplink s
    rw [← uplink] at before
    have after : t.uplink = _ := issues.uplink
    rw [before] at after
    exact after

/-- The parts the load writes before its issues (R15, R62). -/
theorem loadLit_parts (s : State) (valid : (loadImage s).active.Valid) :
    (∀ z, s.loadLit.zone z =
      if ((loadImage s).record z).present then
        { ZoneState.idle with
          occupancy := .occupied, hold := ((loadImage s).record z).holdTime * 60, level := ((loadImage s).record z).onLevel }
      else .idle)
    ∧ ∀ n, 1 ≤ n → n ≤ 4 → s.loadLit.segment n = (s.segment n).matchForced ((loadImage s).forcedHold n) := by
  refine ⟨fun z => lightZones_eq valid z, fun n low high => ?_⟩
  have segment : (loadImage s).segment n = s.segment n := (congrArg (fun u : State => u.segment n) (loadImage_frame s) :)
  rw [loadLit_segment s low high, segment]

/-- Settles O60: the reset's values, the load's two sources and its issues, and the store's two images. -/
theorem resetLoadAndStoreWrite : Obligations.ResetLoadAndStoreWrite := by
  intro s h
  refine ⟨rfl, fun straps low => congrArg Host.Outcome.next (if_pos low), fun running loading => ?_, ?_, fun running writing => ?_, ?_⟩
  · have eq : exec .loadCompletion s = .next (issuePresent s.loadLit) :=
      congrArg Host.Outcome.next (if_pos (by simp [State.running, running, loading]))
    obtain ⟨t, next, law⟩ := exec_law h .loadCompletion
    obtain same : issuePresent s.loadLit = t := Host.Outcome.next.inj (eq.symm.trans next)
    obtain ⟨loaded, active, generation, settings, store, notice, presence, sweep, uplink⟩ := loaded_carries s
    have frame := loaded_frame s
    have back := loadLit_eq_of_issued s
    have issues := issuePresent_issues s.loadLit
    have issued := issuePresent_eq (s := s.loadLit) (b := (loadImage s).active) rfl
    obtain ⟨zone, segment⟩ := loadLit_parts s (h.loadLit running loading).active_valid
    rw [← active] at issued
    rw [same] at *
    obtain ⟨-, -, -, defaults, -, -, -, -, -, -, -, -, -, queues⟩ := h.load (.inr loading)
    refine ⟨s.loadLit, t, next, loaded, fun agrees => ?_, fun disagrees => ?_, ?_, fun a supervised => ?_, fun a unsupervised => ?_, sweep,
      fun c ne ne' => (notice c ne').trans (loadImage_notice s ne), uplink, frame⟩
    · rw [active, generation, settings, store, notice _ (by simp), loadImage_of_agrees agrees]
      exact ⟨rfl, rfl, rfl, rfl, rfl⟩
    · rw [active, generation, settings, store, notice _ (by simp), loadImage_of_disagrees disagrees, notice_report, if_pos rfl]
      exact ⟨rfl, rfl, rfl, rfl, rfl⟩
    · intro bright matched
      have record (z : Nat) : t.record z = (loadImage s).record z := congrArg (fun b : Bank => b.zone z) active
      have lit (z : Nat) : s.loadLit.zone z = if (t.record z).present then bright z else .idle := by
        simp only [bright, record]
        exact zone z
      have port (n : Nat) (low : 1 ≤ n) (high : n ≤ 4) : s.loadLit.segment n = matched n := by
        have forced : t.forcedHold n = (loadImage s).forcedHold n := congrArg (fun c : Settings => nth c.forcedHold false n) settings
        rw [segment n low high, Segment.matchForced_eq, ← forced]
      refine ⟨fun n => (queues n).1, port, lit, ?_, loadImage_notice s (by simp), back, issued, law.idle, fun z present => ?_,
        fun n low high => ?_⟩
      · show (loadImage s).uplink = _
        cases agrees : s.store.image.agrees with
        | true => rw [loadImage_of_agrees agrees]; rfl
        | false =>
          rw [loadImage_of_disagrees agrees, ← defaults]
          rfl
      · refine (issues.zone z).trans ?_
        rw [lit, if_pos present]
      · refine (issues.segment n).trans ?_
        rw [port n low high]
    · rw [presence]
      exact presenceTable_entry _ [] (mem_supervisedAddresses.2 supervised)
    · rw [presence]
      refine presenceTable_none _ [] fun supervised => ?_
      obtain ⟨w, listed, covers⟩ := mem_supervisedAddresses.1 supervised
      exact unsupervised w listed covers
  · exact ⟨_, rfl, rfl, rfl, Image.partial_agrees _, rfl⟩
  · have due : (s.running && s.writing) = true := by simp [State.running, State.writing, running, writing]
    obtain ⟨during, -, same⟩ := h.store
    obtain ⟨disagrees, -⟩ := during writing
    obtain ⟨bank, generation, settings⟩ := same (.inl writing)
    exact ⟨⟨s.store.image.whole, bank, generation, settings, Image.whole_agrees _, congrArg Host.Outcome.next (if_pos due)⟩, disagrees,
      congrArg Host.Outcome.next (if_pos due)⟩
  · intro i
    rw [Image.agrees, beq_iff_eq]

end
end Sys2Proof.Machine
end

/-! # The sweep and its parts (R72, R107, R115, R165 to R169) -/

section
namespace Sys2Proof.Machine

section
variable {s t u : State} {z : Nat}

/-! ## Temperatures -/

/-- The zone state with its temperature fields computed from the included readings (R107, R108). -/
def ZoneState.averaged (v : ZoneState) (rs : List (Nat × Int)) : ZoneState :=
  if rs = [] then
    if v.status = .none then { v with count := 0, spread := 0 } else { v with status := .stale, count := 0, spread := 0 }
  else { v with temperature := some (weightedMean rs), status := .valid, count := rs.length, spread := readingSpread rs }

theorem ZoneState.withReadings_eq_averaged {v : ZoneState} (range : v.InRange) {rs : List (Nat × Int)} {a b : Int}
    (between : ReadingsBetween a b rs) : v.withReadings rs = v.averaged rs := by
  obtain ⟨-, -, -, -, absent, -⟩ := range
  by_cases empty : rs = []
  · rw [withReadings, averaged, if_pos ((weightTotal_eq_zero_iff between).2 empty), if_pos empty]
    cases status : v.status with
    | none =>
      have none : v.temperature = none := absent.2 status
      simp only [if_true]
      rw [← none, ← status]
    | valid => rfl
    | stale => rfl
  · rw [v.withReadings_of_some between empty, averaged, if_neg empty]

theorem computeTemperature_eq (h : s.Law) (z : Nat) :
    computeTemperature z s = s.setZone z ((s.zone z).averaged (s.includedReadings s.active.windows z)) := by
  rw [computeTemperature,
    ZoneState.withReadings_eq_averaged (h.zone_sound z).range (h.includedReadings_between (fun _ hw => h.active_valid.window_inRange hw) z)]

theorem computeShadowTemperature_eq (h : s.Law) (valid : s.staged.Valid) (z : Nat) :
    computeShadowTemperature z s = s.setShadow z ((s.shadowZone z).averaged (s.includedReadings s.staged.windows z)) := by
  obtain ⟨shaded, -⟩ := h.shadow
  rw [computeShadowTemperature,
    ZoneState.withReadings_eq_averaged (shaded z).2 (h.includedReadings_between (fun _ hw => valid.window_inRange hw) z)]

/-! ## Reports of a sweep -/

theorem mem_joinReports_other {q : List ZoneReport} {r x : ZoneReport} (other : x.zone ≠ r.zone) : x ∈ joinReports q r ↔ x ∈ q := by
  rw [joinReports]
  split
  · rw [List.mem_map]
    constructor
    · rintro ⟨y, mem, same⟩
      by_cases own : y.zone = r.zone
      · rw [if_pos own] at same
        exact absurd (congrArg ZoneReport.zone same).symm other
      · rw [if_neg own] at same
        exact same ▸ mem
    · exact fun mem => ⟨x, mem, if_neg other⟩
  · simp only [List.mem_append, List.mem_singleton]
    exact or_iff_left fun same => other (congrArg ZoneReport.zone same)

theorem mem_joinReports_own {q : List ZoneReport} {r x : ZoneReport} (own : x.zone = r.zone) : x ∈ joinReports q r ↔ x = r := by
  rw [joinReports]
  split
  · next waits =>
    obtain ⟨y, mem, same⟩ := List.any_eq_true.1 waits
    rw [List.mem_map]
    constructor
    · rintro ⟨w, -, eq⟩
      by_cases here : w.zone = r.zone
      · rw [if_pos here] at eq; exact eq.symm
      · rw [if_neg here] at eq
        exact absurd (eq ▸ own) here
    · rintro rfl
      exact ⟨y, mem, if_pos (beq_iff_eq.1 same)⟩
  · next none =>
    simp only [List.mem_append, List.mem_singleton]
    refine or_iff_right fun mem => none (List.any_eq_true.2 ⟨x, mem, beq_iff_eq.2 own⟩)

/-- What the report of a sweep writes (R169). -/
theorem sweepReport_effect (low : 1 ≤ z) (high : z ≤ 255) (s : State) :
    let t := sweepReport z s
    t.zone z = { s.zone z with reportPending := true }
      ∧ (∀ y, y ≠ z → t.zone y = s.zone y)
      ∧ t.uplink.reports = joinReports s.uplink.reports (formReport s z)
      ∧ t.uplink = { s.uplink with reports := t.uplink.reports, notices := t.uplink.notices }
      ∧ t = { s with zones := t.zones, notices := t.notices, uplink := t.uplink } := by
  have own : (queueReport z s).zone z = { s.zone z with reportPending := true } := State.zone_setZone_same s _ low high
  have others (y : Nat) (ne : y ≠ z) : (queueReport z s).zone y = s.zone y := State.zone_setZone_other s _ ne
  intro t
  have eq : t = sweepReport z s := rfl
  rw [sweepReport] at eq
  split at eq
  · rw [eq]
    have uplink := report_uplink .reportOverrun (some z) (queueReport z s)
    have reports : (report .reportOverrun (some z) (queueReport z s)).uplink.reports = (queueReport z s).uplink.reports :=
      (congrArg Uplink.reports uplink :)
    refine ⟨own, others, reports, uplink.trans ?_, rfl⟩
    rw [reports]
    rfl
  · rw [eq]
    exact ⟨own, others, rfl, rfl, rfl⟩

/-! ## The presence pass (R167) -/

/-- Its condition reported with the address of the entry as scope, if there is one. -/
def State.told (c : Option Condition) (a : Nat) (s : State) : State :=
  match c with
  | some c => report c (some a) s
  | none => s

theorem presencePass_eq (s : State) :
    presencePass s =
      s.presence.foldl (fun t e => t.told (s.visit e).2 e.address) { s with presence := s.presence.map fun e => (s.visit e).1 } := rfl

/-! ## The steps of a sweep -/

theorem execZoneTemperatureComputation_due (running : s.resetLow = false) {after : Nat} (phase : s.sweep.phase = .temperatures after)
    (next : nextZone (fun y => (s.record y).present) after = some z) :
    exec .zoneTemperatureComputation s = .next (sweepTo (.temperatures z) (sweepReport z (computeTemperature z s))) := by
  show execZoneTemperatureComputation s = _
  simp [execZoneTemperatureComputation, phase, State.running, running, next]

theorem execShadowTemperatureComputation_due (running : s.resetLow = false) (rehearses : s.staging = .rehearsing) {after : Nat}
    (phase : s.sweep.phase = .shadow after) (next : nextZone (fun y => (s.stagedRecord y).present) after = some z) :
    exec .shadowTemperatureComputation s = .next (sweepTo (.shadow z) (computeShadowTemperature z s)) := by
  show execShadowTemperatureComputation s = _
  simp [execShadowTemperatureComputation, phase, State.running, running, rehearses, next]

theorem execRefresh_due (running : s.resetLow = false) {after : Nat} (phase : s.sweep.phase = .refresh after)
    (next : nextZone s.needsRefresh after = some z) :
    exec .refresh s = .next (sweepTo (.refresh z) (refreshZone z s)) := by
  show execRefresh s = _
  simp [execRefresh, phase, State.running, running, next]

/-- Settles O59: each part is made at its next zone, and goes on from there. -/
theorem sweepRunsItsParts : Obligations.SweepRunsItsParts := by
  intro s h running averaged
  refine ⟨fun loaded reached => ?_, fun starting => ?_, fun presence => ?_, fun after z phase above present between => ?_,
    fun after z phase rehearses above present between => ?_, fun after z phase above => ?_⟩
  · have due : s.sweepDue = true := by simp [State.sweepDue, State.running, running, loaded, reached]
    exact congrArg Host.Outcome.next (if_pos due)
  · obtain ⟨-, -, -, most, -⟩ := h.count
    refine congrArg Host.Outcome.next ((if_pos (by simp [State.running, running, starting])).trans ?_)
    by_cases last : s.sweep.number = 65535
    · simp [last]
    · have more : s.sweep.number < 65535 := by omega
      simp [last, more]
  · intro examined limit falls returns visited told
    refine ⟨sweepTo (.temperatures 0) (presencePass s), congrArg Host.Outcome.next (if_pos (by simp [State.running, running, presence])), ?_⟩
    have visits (e : PresenceEntry) :
        s.visit e = (visited e, if falls e then some .deviceSilent else if returns e then some .deviceReturned else none) := by
      rw [State.visit]
      cases listed : lookup s.active.windows e.address with
      | none => simp [examined, falls, returns, visited, listed]
      | some w =>
        by_cases up : (s.segment w.segment).line = .up
        · have sees : examined e = true := by simp [examined, listed, up]
          refine (if_pos up).trans ?_
          cases heard : e.heard with
          | true => simp [PresenceEntry.visited, falls, returns, visited, sees, heard]
          | false =>
            cases state : e.state with
            | unknown => simp [PresenceEntry.visited, falls, returns, visited, sees, heard, state]
            | silent => simp [PresenceEntry.visited, falls, returns, visited, sees, heard, state]
            | present =>
              by_cases reached : limit ≤ e.missed + 1
              · simp [PresenceEntry.visited, falls, visited, sees, heard, state, reached, not_lt.2 reached, limit]
              · simp [PresenceEntry.visited, falls, returns, visited, sees, heard, state, reached, not_le.1 reached, limit]
        · simp [examined, falls, returns, visited, listed, up]
    have tells : (fun (u : State) (e : PresenceEntry) => u.told (s.visit e).2 e.address) = told := by
      funext u e
      rw [visits]
      simp only [told]
      split
      · rfl
      · split <;> rfl
    have entries : (fun e => (s.visit e).1) = visited := by
      funext e
      rw [visits]
    have goes := sweepTo_temperatures_goesOn 0 (presencePass s)
    rw [presencePass_eq, tells, entries] at goes
    rw [presencePass_eq, tells, entries]
    exact goes
  · intro computed queued
    have next : nextZone (fun y => (s.record y).present) after = some z :=
      nextZone_eq_some.2 ⟨(Bank.isZone_of_present present).2, above, present, between⟩
    have same : computeTemperature z s = computed := computeTemperature_eq h z
    obtain ⟨low, high⟩ := State.isZone_of_present present
    obtain ⟨mine, others, reports, uplink, frame⟩ := sweepReport_effect low high computed
    have settles := State.Settles.sweepTo (.temperatures z) (sweepReport z computed)
    have settled := settles.frame
    have zone (y : Nat) : (sweepTo (.temperatures z) (sweepReport z computed)).zone y = (sweepReport z computed).zone y :=
      congrArg (nth · ZoneState.idle y) (congrArg State.zones settled :)
    have queue : (sweepTo (.temperatures z) (sweepReport z computed)).uplink.reports = joinReports s.uplink.reports (formReport computed z) :=
      (congrArg (fun v : State => v.uplink.reports) settled :).trans reports
    refine ⟨sweepTo (.temperatures z) (sweepReport z computed), ?_, sweepTo_temperatures_goesOn z _, ?_, fun y ne => ?_, fun x other => ?_,
      fun x own => ?_, ?_, ?_⟩
    · rw [← same]
      exact execZoneTemperatureComputation_due running phase next
    · rw [zone, mine]
      exact congrArg (fun v : ZoneState => { v with reportPending := true }) (State.zone_setZone_same s _ low high)
    · rw [zone, others y ne]
      exact State.zone_setZone_other s _ ne
    · rw [queue]
      exact mem_joinReports_other (r := formReport computed z) other
    · rw [queue]
      exact mem_joinReports_own (r := formReport computed z) own
    · have after : (sweepTo (.temperatures z) (sweepReport z computed)).uplink =
          { (sweepReport z computed).uplink with notices := (sweepTo (.temperatures z) (sweepReport z computed)).uplink.notices } :=
        (congrArg State.uplink settled :)
      rw [after, uplink]
      rfl
    · generalize sweepTo (.temperatures z) (sweepReport z computed) = x at settled
      rw [settled, frame]
      rfl
  · have next : nextZone (fun y => (s.stagedRecord y).present) after = some z :=
      nextZone_eq_some.2 ⟨(Bank.isZone_of_present present).2, above, present, between⟩
    have valid := Bank.Valid.of_staging h (by simp [rehearses]) (by simp [rehearses])
    have same : computeShadowTemperature z s = _ := computeShadowTemperature_eq h valid z
    obtain ⟨low, high⟩ := Bank.isZone_of_present present
    have frame := sweepTo_frame (.shadow z) (computeShadowTemperature z s) (by simp [computeShadowTemperature, State.setShadow, rehearses])
    refine ⟨_, execShadowTemperatureComputation_due running rehearses phase next, ?_⟩
    rw [same] at frame ⊢
    have shadow (y : Nat) := congrArg (nth · ZoneState.idle y) (congrArg State.shadow frame :)
    refine ⟨sweepTo_shadow_goesOn z _, (shadow z).trans (State.shadowZone_setShadow_same s _ low high),
      fun y ne => (shadow y).trans (State.shadowZone_setShadow_other s _ ne), ?_⟩
    generalize sweepTo (.shadow z) _ = x at frame
    rw [frame]
    rfl
  · intro needs cleared needed between
    have next : nextZone s.needsRefresh after = some z :=
      nextZone_eq_some.2 ⟨(Bank.isZone_of_present needed.1).2, above, (s.needsRefresh_iff z).2 needed, fun y low below =>
        Bool.eq_false_of_not_eq_true fun k => between y low below ((s.needsRefresh_iff y).1 k)⟩
    exact ⟨_, execRefresh_due running phase next, sweepTo_refresh_goesOn z _⟩

end
end Sys2Proof.Machine
end
